-- ==== Sys2Proof/Word.lean ====
section
/-! DEFINITION. The word types of the block (spec/00_scope.md R7): bytes, the record's 16-bit fields, and the sequences
whose lengths are parameters of R5. The registers whose widths are parameters are natural numbers, cut to their width
where they are written (Sys2Proof/Machine/Ops.lean). Operators on them are in Sys2Proof/Machine/Arith.lean. -/

namespace Sys2Proof

/-- A byte is 8 bits (R7): an operation word, a received byte, a byte of a command frame. -/
abbrev Byte := BitVec 8

/-- A 16-bit unsigned field of the record (R27). -/
abbrev Word := BitVec 16

/-- One row of the command LUT: `CMD_FRAME_LEN` bytes, byte 0 first on the wire (20_memory.md R56, R58). -/
abbrev Frame := List Byte

/-- The record register file `rec[0..NFIELDS-1]` (10_state.md R27). -/
abbrev Reading := List Word

/-- The payload buffer `buf[0..PAYLOAD_CAP-1]` (10_state.md R25). -/
abbrev Buffer := List Byte

end Sys2Proof
end

