-- ==== Sys2Proof/Config.lean ====
section
/-! DEFINITION. The implementation parameters of spec/00_scope.md R5 as configuration fields, with the source's
values as defaults, and the free values of the OPEN command LUT (41_command.md R142, D10). Which configurations are
refused is in Sys2Proof/Machine/ConfigCheck.lean. -/

namespace Sys2Proof

/-- Free value: it selects `CMD_OP[s] + CMD_VAR[s]` of row `s` of the built-in command LUT among the sums R143 allows
(R142, N6; `openSum` of Sys2Proof/Machine/Lut.lean). The spec gives no value. No body: nothing can be proved of it
(notes/assumptions/4.md). -/
opaque Config.freeSum : Fin 5 → Byte

/-- Free value: it selects `CMD_OP[s]` of row `s` of the built-in command LUT among the values that sum leaves
(`openOp` of Sys2Proof/Machine/Lut.lean). No body (notes/assumptions/4.md). -/
opaque Config.freeOp : Fin 5 → Byte

/-- Where the contents of `CMD_LUT` come from (R5: OPEN, constrained by R141 to R143). -/
inductive LutSource where
  /-- the table fixed when the block was built, whose per-command bytes are the free values above -/
  | builtIn
  /-- a named table: claims quantified over it hold for every table that meets the constraints (D10). `rows` are the
  rows of the five selectors (R140); `more` are the rows a larger `NCMD` adds, which no operation reads
  (notes/assumptions/3.md) -/
  | table (rows : Vector Frame 5) (more : List Frame)
  deriving DecidableEq, Repr

/-- The fixed bytes of a command frame as the source gives them (20_memory.md R56, 41_command.md R141). Offsets 4, 7
and 15 are per-command and are never read from here. -/
def Config.sourceTemplate : Frame :=
  [0x33, 0x3E, 0x00, 0x0C, 0x00, 0x00, 0x00, 0x00, 0x00, 0x00, 0x00, 0x00, 0x00, 0x00, 0x01, 0x00]

/-- The parameters of R5, under the spec's names. The defaults are the spec's values. What the sizes mean at other
values than the spec's: notes/assumptions/3.md. -/
structure Config where
  /-- `START1`, first start byte of a received frame -/
  start1 : Byte := 0x32
  /-- `START2`, second start byte of a received frame -/
  start2 : Byte := 0x3D
  /-- `LEN_SHORT`, frameLength of the 5-field variant -/
  lenShort : Nat := 12
  /-- `LEN_LONG`, frameLength of the 13-field variant -/
  lenLong : Nat := 28
  /-- `ACCEPT_SHORT`, whether `LEN_SHORT` is accepted (D6) -/
  acceptShort : Bool := true
  /-- `PAYLOAD_CAP`, payload buffer capacity in bytes -/
  payloadCap : Nat := 18
  /-- `NFIELDS`, fields in the record -/
  nFields : Nat := 9
  /-- `CKW`, width of running and received checksum -/
  checksumWidth : Nat := 16
  /-- `FLW`, width of the frameLength register -/
  frameLenWidth : Nat := 16
  /-- `CURSOR_W`, width of the cursor register (D8) -/
  cursorWidth : Nat := 8
  /-- `NCMD`, number of command frames -/
  nCmd : Nat := 5
  /-- `CMD_FRAME_LEN`, bytes per command frame -/
  cmdFrameLen : Nat := 16
  /-- the LUT's fixed bytes (D28); only the offsets other than 4, 7 and 15 are read -/
  cmdTemplate : Frame := Config.sourceTemplate
  /-- `CMD_LUT` -/
  cmdLut : LutSource := .builtIn
  /-- `TIMEOUT_DEFAULT_MS`, default timeout of the host read procedure -/
  timeoutDefaultMs : Nat := 1000
  /-- `CLOCK_W`, width of the host's millisecond counter (D21) -/
  clockWidth : Nat := 32
  deriving DecidableEq, Repr

/-- The reasons a configuration is refused (40_decoder.md R119, 41_command.md R140 to R143, I16;
notes/assumptions/3.md). -/
inductive ConfigError where
  /-- `PAYLOAD_CAP` is not `2 × NFIELDS` (R119) -/
  | payloadCap
  /-- an accepted length is below 2 (R119) -/
  | lengthTooShort
  /-- an accepted length `L` has `L + 3 ≥ 2^CURSOR_W` (R119) -/
  | cursorTooNarrow
  /-- `NCMD` leaves one of the five selectors without a row, or is not the number of rows of the named table (R140) -/
  | commandCount
  /-- `CMD_FRAME_LEN` leaves no place for the bytes R141 to R143 name, or is not the number of fixed bytes given -/
  | commandFrameLen
  /-- no row with the configured fixed bytes meets R143, so there is no table to be built in -/
  | noLegalRow
  /-- a row's fixed bytes are wrong (R141) -/
  | rowFixedBytes (row : Nat)
  /-- a row's bytes 14 and 15 are not the sum of bytes 0 to 13 (R143) -/
  | rowChecksum (row : Nat)
  deriving DecidableEq, Repr

/-- The default parameters of R5. -/
def Config.default : Config := {}

end Sys2Proof
end

