-- ==== Sys2Proof/Machine/Arith.lean ====
section
/-! DEFINITION. The arithmetic and bit operators of spec/00_scope.md R8. A register cuts what is written to it to its width
(Sys2Proof/Machine/Ops.lean), so `a +16 b` is `a + zext b` written to a 16-bit register, and `b << 8` is `shl8 b`. -/

namespace Sys2Proof.Machine

/-- R8: `zext_N(b)`: the value of the byte, whatever `N`. -/
def zext (b : Byte) : Nat := b.toNat

/-- R8: `b << 8` is `zext_16(b) * 256`. -/
def shl8 (b : Byte) : Nat := zext b * 256

/-- R8: `hi:lo`, a big-endian pair: the first byte on the wire is the high byte (20_memory.md R50). -/
def concat (hi lo : Byte) : Word := hi ++ lo

/-- `a +W b`: the sum modulo `2^W` (R8 with `W = 16`). -/
def addAt (width : Nat) (a : Nat) (b : Byte) : Nat := (a + zext b) % 2 ^ width

/-- R113: the sum of a sequence of bytes in a register of the given width, with natural wraparound. -/
def byteSum (width : Nat) (bs : List Byte) : Nat := bs.foldl (addAt width) 0

/-- A big-endian pair of bytes as a register of the given width holds it (R50). -/
def pairAt (width : Nat) (hi lo : Byte) : Nat := (zext hi * 256 + zext lo) % 2 ^ width

/-- The sum of a sequence of bytes as an integer of unbounded width. -/
def byteTotal (bs : List Byte) : Nat := (bs.map zext).sum

end Sys2Proof.Machine
end

