-- ==== Sys2Proof/Machine/Lut.lean ====
section
/-! DEFINITION. The command LUT (spec/41_command.md R140 to R144): what a well-formed row is, the built-in table made
of the free values, and `LutRead`. The fixed bytes are a parameter (D28). -/

namespace Sys2Proof.Machine

/-- R142: a row with the given per-command bytes `<op>` (offset 4), `<variant>` (7) and `<checksum>` (15). -/
def commandRow (template : Frame) (op var ck : Byte) : Frame := ((template.set 4 op).set 7 var).set 15 ck

/-- A row with its per-command bytes blanked: what is left are its fixed bytes (R141). -/
def blank (row : Frame) : Frame := commandRow row 0 0 0

/-- R141: the row carries the template's bytes at every offset but the per-command ones. -/
def fixedBytesOk (template row : Frame) : Bool := blank row == blank template

/-- R143: bytes 14 and 15, read as one big-endian value, are the 16-bit sum of bytes 0 to 13. -/
def rowChecksumOk (row : Frame) : Bool :=
  match row.drop 14 with
  | hi :: lo :: _ => pairAt 16 hi lo == byteTotal (row.take 14) % 2 ^ 16
  | _ => false

/-- The sum of the fixed bytes that R143 sums: `0x7D` with the source's. -/
def fixedTotal (template : Frame) : Nat := byteTotal ((blank template).take 14)

/-- The high byte R143 asks for, at its place: byte 14 is a fixed byte. -/
def sumBase (template : Frame) : Nat := 256 * zext (template.getD 14 0)

/-- The least `<op> + <variant>` that R143 allows: 131 with the source's fixed bytes. -/
def openLow (template : Frame) : Nat := sumBase template - fixedTotal template

/-- The greatest `<op> + <variant>` that R143 allows: 386 with the source's fixed bytes. -/
def openHigh (template : Frame) : Nat := min 510 (sumBase template + 255 - fixedTotal template)

/-- Whether any row with these fixed bytes meets R143. -/
def hasOpenRow (template : Frame) : Bool :=
  fixedTotal template ≤ sumBase template + 255 && openLow template ≤ 510

/-- `<op> + <variant>` of an open row: any sum R143 allows, selected by `raw`. -/
def openSum (template : Frame) (raw : Byte) : Nat :=
  openLow template + zext raw % (openHigh template - openLow template + 1)

/-- `<op>` of an open row with `<op> + <variant> = total`: any value that leaves `<variant>` a byte, selected by `raw`. -/
def openOp (total : Nat) (raw : Byte) : Nat := (total - 255) + zext raw % (min 255 total - (total - 255) + 1)

/-- A row drawn from all rows with these fixed bytes that meet R143: the first value selects `<op> + <variant>`, the
second `<op>`, and `<checksum>` is what R143 then leaves (D10, D11; notes/assumptions/4.md). -/
def openRow (template : Frame) (rawSum rawOp : Byte) : Frame :=
  let total := openSum template rawSum
  let op := openOp total rawOp
  commandRow template (BitVec.ofNat 8 op) (BitVec.ofNat 8 (total - op)) (BitVec.ofNat 8 (fixedTotal template + total))

/-- Row `s` of the built-in table: its per-command bytes are free values (R142, N6). -/
def builtInRow (template : Frame) (s : Fin 5) : Frame := openRow template (Config.freeSum s) (Config.freeOp s)

/-- `LutRead(s)` (20_memory.md R60): row `s` of `CMD_LUT`. -/
def lutRead (c : Config) (s : Fin 5) : Frame :=
  match c.cmdLut with
  | .builtIn => builtInRow c.cmdTemplate s
  | .table rows _ => rows[s]

end Sys2Proof.Machine
end

