-- ==== Sys2Proof/Machine/ConfigCheck.lean ====
section
/-! DEFINITION. Which configurations a model refuses (spec/40_decoder.md R119, 41_command.md R140 to R143, D28, I16),
and the set of accepted frame lengths (00_scope.md R6). -/

namespace Sys2Proof.Machine

/-- R6: `ACCEPTED = {LEN_LONG} ∪ (if ACCEPT_SHORT then {LEN_SHORT} else {})`. -/
def accepted (c : Config) (len : Nat) : Bool := len == c.lenLong || (c.acceptShort && len == c.lenShort)

/-- R119: an accepted length puts both checksum positions at or beyond cursor 4. -/
def lengthOk (len : Nat) : Bool := 2 ≤ len

/-- R119: the cursor of width `w` never wraps on a frame of this length. -/
def lengthFits (w : Nat) (len : Nat) : Bool := len + 3 < 2 ^ w

/-- R141, R143: what is wrong with row number `s`, if anything. -/
def rowError (template row : Frame) (s : Nat) : Option ConfigError :=
  if !fixedBytesOk template row then some (.rowFixedBytes s)
  else if !rowChecksumOk row then some (.rowChecksum s)
  else none

/-- R141, R143: the first thing wrong with the rows from number `s` on. -/
def rowsError (template : Frame) : Nat → List Frame → Option ConfigError
  | _, [] => none
  | s, row :: rest =>
    match rowError template row s with
    | some e => some e
    | none => rowsError template (s + 1) rest

/-- What is wrong with the LUT, if anything. The rows of the built-in table meet R141 and R143 by their form wherever
any row does. -/
def lutError (c : Config) : Option ConfigError :=
  match c.cmdLut with
  | .builtIn =>
    if c.nCmd < 5 then some .commandCount
    else if !hasOpenRow c.cmdTemplate then some .noLegalRow
    else none
  | .table rows more =>
    if c.nCmd ≠ 5 + more.length then some .commandCount
    else rowsError c.cmdTemplate 0 (rows.toList ++ more)

/-- The first constraint a configuration violates; `none` when it violates none. `CMD_FRAME_LEN` may not leave out an
offset that R141 to R143 name (notes/assumptions/3.md). -/
def configError (c : Config) : Option ConfigError :=
  if c.payloadCap ≠ 2 * c.nFields then some .payloadCap
  else if !lengthOk c.lenLong || (c.acceptShort && !lengthOk c.lenShort) then some .lengthTooShort
  else if !lengthFits c.cursorWidth c.lenLong || (c.acceptShort && !lengthFits c.cursorWidth c.lenShort) then
    some .cursorTooNarrow
  else if c.cmdFrameLen < 16 ∨ c.cmdTemplate.length ≠ c.cmdFrameLen then some .commandFrameLen
  else lutError c

/-- A configuration the model does not refuse. -/
def configOk (c : Config) : Bool := configError c == none

end Sys2Proof.Machine
end

