-- ==== Sys2Proof/Machine/State.lean ====
section
/-! DEFINITION. The state of the block and of the agents around it (spec/10_state.md R20 to R37, 60_exceptions.md R184,
R189), as plain data; its reset value; the reasons a step can stop. -/

namespace Sys2Proof.Machine

/-- `ok`, the source's `result` (R26): "whether the most recent step yielded `Waiting` or `Ok`". -/
inductive StepResult where
  | waiting
  | ok
  deriving DecidableEq, Repr

/-- `mode` (R28): the last active or passive command issued. -/
inductive Mode where
  | active
  | passive
  deriving DecidableEq, Repr

/-- What the host, the transport and the clock do next (R189). Every entry lands between operations (R35, R64). -/
inductive Input where
  /-- the host issues an operation word (R70); `arriving` are the bytes that arrive while it is performed (R186 item 3) -/
  | op (word : Byte) (arriving : List Byte)
  /-- the transport appends received bytes to `rxq` (R35, R57; directive `RX` of R77) -/
  | rx (bytes : List Byte)
  /-- reset, alone or asserted together with an operation word (R200, R186 item 2; directive `RESET` of R77) -/
  | reset (concurrent : Option Byte)
  /-- the clock advances by some milliseconds (R170) -/
  | tick (ms : Nat)
  deriving DecidableEq, Repr

/-- The whole state. `record` is the spec's `rec`. -/
structure State where
  /-- the parameters of R5; the model's own field, changed by no step -/
  cfg : Config
  /-- R20: count of bytes consumed in the current frame attempt; `CURSOR_W` bits, kept below `2^CURSOR_W` -/
  cursor : Nat
  /-- R22: declared payload and checksum length; `FLW` bits, kept below `2^FLW` -/
  frameLen : Nat
  /-- R23: the running checksum; `CKW` bits, kept below `2^CKW` -/
  sumAcc : Nat
  /-- R24: the received checksum; `CKW` bits, kept below `2^CKW` -/
  rxSum : Nat
  /-- R25: the payload buffer, `PAYLOAD_CAP` bytes -/
  buf : Buffer
  /-- R26: the result of the most recent STEP -/
  ok : StepResult
  /-- R27: the Reading, `NFIELDS` fields -/
  record : Reading
  /-- R28: the recorded reporting mode -/
  mode : Mode
  /-- R35: bytes received and not yet read, oldest first -/
  rxq : List Byte
  /-- R35: frames handed to the transport, oldest first -/
  txlog : List Frame
  /-- R35, R170: the host's millisecond counter; `CLOCK_W` bits, kept below `2^CLOCK_W` -/
  now : Nat
  /-- what the agents outside the block do next, oldest first; the model's own field (notes/assumptions/1.md) -/
  inbox : List Input
  /-- R184: the reserved word that was refused, once one has been -/
  refusalMark : Option Byte
  deriving DecidableEq, Repr

/-- The block has no fault outcome (R11, R180): no constructor. -/
inductive Fault
  deriving DecidableEq, Repr

/-- Why a step gives no next state. -/
inductive Refusal where
  /-- An instruction without a meaning. Raised by no arm: all six operations have theirs. Safe. -/
  | notModelled (mnemonic : String)
  /-- R184 `ReservedEncoding(op)`: raised by `step` on one of the 250 reserved words, and again by every step after it.
  Safe: a run that contains one supports no claim. -/
  | reservedEncoding (op : Byte)
  /-- I16, R119, R140 to R143: raised by `step` when the configuration violates a constraint. Safe: no claim follows. -/
  | illFormedConfig (why : ConfigError)
  deriving DecidableEq, Repr

/-- The state right after reset (R37, R200, R203) with the default parameters of R5. The agents around the block hold
nothing yet (notes/assumptions/7.md). -/
def State.reset : State where
  cfg := Config.default
  cursor := 0
  frameLen := 0
  sumAcc := 0
  rxSum := 0
  buf := List.replicate Config.default.payloadCap 0
  ok := .waiting
  record := List.replicate Config.default.nFields 0
  mode := .active
  rxq := []
  txlog := []
  now := 0
  inbox := []
  refusalMark := none

end Sys2Proof.Machine
end

