-- ==== Sys2Proof/Machine/Ops.lean ====
section
/-! DEFINITION. The named operations over registers, storage and transport (spec/20_memory.md R54 to R60), the reset
event (70_reset_and_hazards.md R200, R201) and the environment's actions (10_state.md R35). The block takes no exception
and returns from none (60_exceptions.md R180, R187), so there is no operation for either. -/

namespace Sys2Proof.Machine

/-- `cursor <- v`, kept to `CURSOR_W` bits (R20). -/
def writeCursor (v : Nat) (s : State) : State := { s with cursor := v % 2 ^ s.cfg.cursorWidth }

/-- `cursor <- cursor + 1` (R100, last line). -/
def advanceCursor (s : State) : State := writeCursor (s.cursor + 1) s

/-- `cursor <- 0`: resynchronisation, or the end of a frame attempt (R114). -/
def resync (s : State) : State := writeCursor 0 s

/-- `frameLen <- v`, kept to `FLW` bits (R22, R5). -/
def writeFrameLen (v : Nat) (s : State) : State := { s with frameLen := v % 2 ^ s.cfg.frameLenWidth }

/-- `sumAcc <- v`, kept to `CKW` bits (R23, R5). -/
def writeSum (v : Nat) (s : State) : State := { s with sumAcc := v % 2 ^ s.cfg.checksumWidth }

/-- `sumAcc <- sumAcc +16 b` (R23, R113). -/
def addToSum (b : Byte) (s : State) : State := writeSum (s.sumAcc + zext b) s

/-- `rxSum <- v`, kept to `CKW` bits (R24, R5). -/
def writeRxSum (v : Nat) (s : State) : State := { s with rxSum := v % 2 ^ s.cfg.checksumWidth }

/-- R54: payload byte `i` is stored in `buf[i]` if and only if `i < PAYLOAD_CAP`. -/
def storePayload (i : Nat) (b : Byte) (s : State) : State :=
  if i < s.cfg.payloadCap then { s with buf := s.buf.set i b } else s

/-- R55: `rec[k] = buf[2k]:buf[2k+1]`, big-endian: the buffer's bytes in pairs, `NFIELDS` of them, since the buffer has
`2 × NFIELDS` bytes (R119). -/
def fieldsOfBuffer : Buffer → Reading
  | hi :: lo :: rest => concat hi lo :: fieldsOfBuffer rest
  | _ => []

/-- R111: all fields of the record are written at once from `buf` as it stands. -/
def commitRecord (s : State) : State := { s with record := fieldsOfBuffer s.buf }

/-- R57: `RxAvail()`, whether the transport holds an unread byte. -/
def rxAvail (s : State) : Bool := !s.rxq.isEmpty

/-- R58: `TxWrite(f)`, which appends the whole frame to `txlog` and never fails. -/
def txWrite (f : Frame) (s : State) : State := { s with txlog := s.txlog ++ [f] }

/-- R200: every register of the block takes its reset value at once. R201: `rxq`, `txlog` and the parameters keep
theirs, and so do the clock, the pending inputs and the refusal mark (R184; notes/assumptions/8.md). -/
def resetBlock (s : State) : State :=
  { s with
    cursor := 0
    frameLen := 0
    sumAcc := 0
    rxSum := 0
    buf := List.replicate s.cfg.payloadCap 0
    ok := .waiting
    record := List.replicate s.cfg.nFields 0
    mode := .active }

/-- R203: power-up is a reset. The first state of a block built with parameters `c`. -/
def powerUp (c : Config) : State := resetBlock { State.reset with cfg := c }

/-- R35: the transport appends bytes to `rxq`, in stream order. -/
def receive (bytes : List Byte) (s : State) : State := { s with rxq := s.rxq ++ bytes }

/-- R170: the clock advances by `ms` milliseconds and wraps modulo `2^CLOCK_W`. -/
def advanceClock (ms : Nat) (s : State) : State := { s with now := (s.now + ms) % 2 ^ s.cfg.clockWidth }

/-- R172: `(now - start) mod 2^CLOCK_W`. -/
def elapsedSince (start : Nat) (s : State) : Nat :=
  (s.now + 2 ^ s.cfg.clockWidth - start % 2 ^ s.cfg.clockWidth) % 2 ^ s.cfg.clockWidth

end Sys2Proof.Machine
end

