-- ==== Sys2Proof/Machine/Flags.lean ====
section
/-! DEFINITION. The block's two flags (spec/10_state.md R26, R28, R31), the conditions STEP computes (40_decoder.md R106,
R110), and the outputs the host sees (R33). -/

namespace Sys2Proof.Machine

/-- R101: `ok <- 0`, the first write of every STEP. -/
def clearOk (s : State) : State := { s with ok := .waiting }

/-- R110: `ok <- 1`, on the success path only. -/
def setOk (s : State) : State := { s with ok := .ok }

/-- R147, R148: `mode <- m`. -/
def writeMode (m : Mode) (s : State) : State := { s with mode := m }

/-- R106: whether the length just received is accepted. -/
def lengthAccepted (s : State) : Bool := accepted s.cfg s.frameLen

/-- R110: the comparison of the received and the running checksum, on their full width. -/
def checksumMatches (s : State) : Bool := s.rxSum == s.sumAcc

/-- R26, D24: the encoding of `ok`, 0 Waiting and 1 Ok. -/
def StepResult.bit : StepResult → BitVec 1
  | .waiting => 0
  | .ok => 1

/-- R28, D24: the encoding of `mode`, 0 Active and 1 Passive. -/
def Mode.bit : Mode → BitVec 1
  | .active => 0
  | .passive => 1

/-- R33: what the host can read, at any time and without side effect. -/
structure Outputs where
  ok : BitVec 1
  record : Reading
  mode : BitVec 1
  deriving DecidableEq, Repr

/-- R33: the level outputs of a state. -/
def outputs (s : State) : Outputs := { ok := s.ok.bit, record := s.record, mode := s.mode.bit }

/-! The fields of the record under their names (R27); `none` where the record has fewer fields. -/

/-- mass concentration PM1.0 -/
def pm1_0 (r : Reading) : Option Word := r[0]?
/-- mass concentration PM2.5 -/
def pm2_5 (r : Reading) : Option Word := r[1]?
/-- mass concentration PM10.0 -/
def pm10_0 (r : Reading) : Option Word := r[2]?
/-- particle count, 0.3 µm bin -/
def pmNum0_3 (r : Reading) : Option Word := r[3]?
/-- particle count, 0.5 µm bin -/
def pmNum0_5 (r : Reading) : Option Word := r[4]?
/-- particle count, 1.0 µm bin -/
def pmNum1_0 (r : Reading) : Option Word := r[5]?
/-- particle count, 2.5 µm bin -/
def pmNum2_5 (r : Reading) : Option Word := r[6]?
/-- particle count, 5.0 µm bin -/
def pmNum5_0 (r : Reading) : Option Word := r[7]?
/-- particle count, 10.0 µm bin -/
def pmNum10_0 (r : Reading) : Option Word := r[8]?

end Sys2Proof.Machine
end

