-- ==== Sys2Proof/Machine/Command.lean ====
section
/-! DEFINITION. The five command operations (spec/41_command.md R145 to R149). -/

namespace Sys2Proof.Machine

/-- R140: the LUT rows, in selector order. -/
def sleepRow : Fin 5 := 0
def wakeRow : Fin 5 := 1
def activeRow : Fin 5 := 2
def passiveRow : Fin 5 := 3
def reqreadRow : Fin 5 := 4

/-- `TxWrite(LutRead(r))`. -/
def sendRow (r : Fin 5) (s : State) : State := txWrite (lutRead s.cfg r) s

/-- `CMD.SLEEP` (R145). -/
def execCmdSleep (s : State) : Host.Outcome State Fault Refusal := .next (sendRow sleepRow s)

/-- `CMD.WAKE` (R146). The warm-up is advisory; the block enforces nothing (R205). -/
def execCmdWake (s : State) : Host.Outcome State Fault Refusal := .next (sendRow wakeRow s)

/-- `CMD.ACTIVE` (R147). The frame is sent whatever `mode` is. -/
def execCmdActive (s : State) : Host.Outcome State Fault Refusal := .next (writeMode .active (sendRow activeRow s))

/-- `CMD.PASSIVE` (R148). The frame is sent whatever `mode` is. -/
def execCmdPassive (s : State) : Host.Outcome State Fault Refusal := .next (writeMode .passive (sendRow passiveRow s))

/-- `CMD.REQREAD` (R149): a silent no-operation unless the recorded mode is Passive. -/
def execCmdReqread (s : State) : Host.Outcome State Fault Refusal :=
  .next (if s.mode = .passive then sendRow reqreadRow s else s)

end Sys2Proof.Machine
end

