-- ==== Sys2Proof/Syntax.lean ====
section
/-! DEFINITION. The operations of spec/30_encoding.md R73, one constructor per row of spec/opcode_table.json, and the
field layout of the operation word (R71). -/

namespace Sys2Proof

/-- The six operations (R73). None has an operand in its word (R72). -/
inductive Instr where
  /-- `STEP`, 40_decoder.md R100 -/
  | step
  /-- `CMD.SLEEP`, 41_command.md R145 -/
  | cmdSleep
  /-- `CMD.WAKE`, 41_command.md R146 -/
  | cmdWake
  /-- `CMD.ACTIVE`, 41_command.md R147 -/
  | cmdActive
  /-- `CMD.PASSIVE`, 41_command.md R148 -/
  | cmdPassive
  /-- `CMD.REQREAD`, 41_command.md R149 -/
  | cmdReqread
  deriving DecidableEq, Repr

/-- The fields of an operation word (R71): `class = op[7:4]`, `rsv = op[3]`, `sel = op[2:0]`. -/
structure OpFields where
  cls : BitVec 4
  rsv : BitVec 1
  sel : BitVec 3
  deriving DecidableEq, Repr

end Sys2Proof
end

