-- ==== Sys2Proof/WellFormed.lean ====
section
/-! DEFINITION. Which field values make a legal operation word (spec/30_encoding.md R71, R73, R74), and which
operations are well-formed (all six: no operation has an operand, R72). -/

namespace Sys2Proof

/-- R71: class `0x0` (decoder) or `0x1` (command); the other classes are reserved. -/
def OpFields.classOk (f : OpFields) : Bool := f.cls == 0 || f.cls == 1

/-- R71: `op[3]` must be 0. -/
def OpFields.rsvOk (f : OpFields) : Bool := f.rsv == 0

/-- R71, R73: for class `0x0` the selector must be `000`; for class `0x1` it is one of the five LUT rows. -/
def OpFields.selOk (f : OpFields) : Bool := if f.cls == 0 then f.sel == 0 else f.sel.toNat < 5

/-- The fields of a legal operation word: every other word is reserved (R74). -/
def OpFields.wf (f : OpFields) : Bool := f.classOk && f.rsvOk && f.selOk

/-- Every operation is well-formed: none has an operand that could be out of range (R72). -/
def Instr.wf : Instr → Bool
  | .step => true
  | .cmdSleep => true
  | .cmdWake => true
  | .cmdActive => true
  | .cmdPassive => true
  | .cmdReqread => true

end Sys2Proof
end

