-- ==== Sys2Proof/Decode.lean ====
section
/-! DEFINITION. The operation map of spec/30_encoding.md R73 as a list of rows, the decoder read from it, and after it
the encoder, written from the field layout of R71. -/

namespace Sys2Proof

/-- One row of R73: a word `op` is this operation when `(op & mask) == match`. -/
structure OpRow where
  mnemonic : String
  pattern : Byte
  mask : Byte
  instr : Instr
  deriving DecidableEq, Repr

/-- The complete operation map (R73; spec/opcode_table.json). -/
def opTable : List OpRow :=
  [ ⟨"STEP", 0x00, 0xFF, .step⟩,
    ⟨"CMD.SLEEP", 0x10, 0xFF, .cmdSleep⟩,
    ⟨"CMD.WAKE", 0x11, 0xFF, .cmdWake⟩,
    ⟨"CMD.ACTIVE", 0x12, 0xFF, .cmdActive⟩,
    ⟨"CMD.PASSIVE", 0x13, 0xFF, .cmdPassive⟩,
    ⟨"CMD.REQREAD", 0x14, 0xFF, .cmdReqread⟩ ]

/-- R73: `(op & mask) == match`. -/
def OpRow.hits (r : OpRow) (w : Byte) : Bool := (w &&& r.mask) == r.pattern

/-- The operation a word stands for; `none` for the 250 reserved words (R74). -/
def decode (w : Byte) : Option Instr := (opTable.find? (·.hits w)).map (·.instr)

/-- Why a sequence of words does not decode. -/
inductive DecodeError where
  /-- there is no word -/
  | noWord
  /-- the word is reserved (R74; R184 `ReservedEncoding(op)`) -/
  | reservedEncoding (op : Byte)
  deriving DecidableEq, Repr

/-- Decode one operation from a sequence of words: every operation is one word long (R70, R76). -/
def decodeWords : List Byte → Except DecodeError (Instr × List Byte)
  | [] => .error .noWord
  | w :: rest =>
    match decode w with
    | some i => .ok (i, rest)
    | none => .error (.reservedEncoding w)

/-- Decode a whole sequence of words, in order; the first reserved word is rejected by name. -/
def decodeAll : List Byte → Except DecodeError (List Instr)
  | [] => .ok []
  | w :: rest =>
    match decode w with
    | none => .error (.reservedEncoding w)
    | some i =>
      match decodeAll rest with
      | .ok is => .ok (i :: is)
      | .error e => .error e

/-- The instruction the decoder reads from a word given as a number, numbered as spec/opcode_table.json numbers it.
An operation is one 8-bit word (R70), so bits above the word are the next word's (notes/assumptions/2.md). -/
def decodeTableWord (nbits w : Nat) : Option Instr := decode (BitVec.ofNat 8 (w % 2 ^ nbits))

/-- Split a word into the fields of R71. -/
def fieldsOf (w : Byte) : OpFields :=
  { cls := w.extractLsb' 4 4, rsv := w.extractLsb' 3 1, sel := w.extractLsb' 0 3 }

/-- Assemble a word from the fields of R71, `class` at the top. -/
def wordOf (f : OpFields) : Byte := f.cls ++ f.rsv ++ f.sel

/-- The fields of each operation (R71, R73): class 0 for STEP, class 1 and the LUT selector for a command. -/
def encodeFields : Instr → OpFields
  | .step => ⟨0, 0, 0⟩
  | .cmdSleep => ⟨1, 0, 0⟩
  | .cmdWake => ⟨1, 0, 1⟩
  | .cmdActive => ⟨1, 0, 2⟩
  | .cmdPassive => ⟨1, 0, 3⟩
  | .cmdReqread => ⟨1, 0, 4⟩

/-- The word of an operation. -/
def encode (i : Instr) : Byte := wordOf (encodeFields i)

end Sys2Proof
end

