-- ==== Sys2Proof/Machine/Operands.lean ====
section
/-! DEFINITION. The two operand forms of the block (spec/30_encoding.md R72): STEP's data operand, the byte RxRead
returns, and a command's LUT selector, the `sel` field of its word. -/

namespace Sys2Proof.Machine

/-- R57: `RxRead()` removes the oldest unread byte and returns it; there is none unless `RxAvail()`. -/
def rxRead (s : State) : Option (Byte × State) :=
  match s.rxq with
  | [] => none
  | b :: rest => some (b, { s with rxq := rest })

/-- R72: the selector of a word as a LUT row index, `s = zext_3(op[2:0])`, where the LUT has such a row. -/
def selectorOf (w : Byte) : Option (Fin 5) :=
  if h : (fieldsOf w).sel.toNat < 5 then some ⟨(fieldsOf w).sel.toNat, h⟩ else none

end Sys2Proof.Machine
end

