-- ==== Sys2Proof/Machine/Decoder.lean ====
section
/-! DEFINITION. STEP (spec/40_decoder.md): one definition per transition (R103 to R112), the dispatch on the cursor
(R100, R108), and the meaning of the instruction. -/

namespace Sys2Proof.Machine

/-- R103: cursor 0, first start byte. Anything else is dropped and nothing changes. -/
def firstStartByte (b : Byte) (s : State) : State :=
  if b = s.cfg.start1 then advanceCursor (writeSum (zext b) s) else s

/-- R104: cursor 1, second start byte. Anything else resynchronises and is not examined again. -/
def secondStartByte (b : Byte) (s : State) : State :=
  if b = s.cfg.start2 then advanceCursor (addToSum b s) else resync s

/-- R105: cursor 2, length high byte. -/
def lengthHighByte (b : Byte) (s : State) : State :=
  advanceCursor (writeFrameLen (shl8 b) (addToSum b s))

/-- R106: cursor 3, length low byte. The length is written before it is checked, so a rejected one is kept (D9). -/
def lengthLowByte (b : Byte) (s : State) : State :=
  let s := writeFrameLen (s.frameLen ||| zext b) s
  if lengthAccepted s then advanceCursor (addToSum b s) else resync s

/-- R109: checksum high byte, not added to the sum. -/
def checksumHighByte (b : Byte) (s : State) : State := advanceCursor (writeRxSum (shl8 b) s)

/-- R110, R111: checksum low byte, comparison, and the end of the frame attempt. -/
def checksumLowByte (b : Byte) (s : State) : State :=
  let s := writeRxSum (s.rxSum ||| zext b) s
  resync (if checksumMatches s then commitRecord (setOk s) else s)

/-- R112: payload byte; every one is summed, the first `PAYLOAD_CAP` are stored. -/
def payloadByte (b : Byte) (s : State) : State :=
  advanceCursor (storePayload (s.cursor - 4) b (addToSum b s))

/-- R100, R108: the cursor selects the transition; the tests are on integers of unbounded width, in this order. -/
def consumeByte (b : Byte) (s : State) : State :=
  if s.cursor = 0 then firstStartByte b s
  else if s.cursor = 1 then secondStartByte b s
  else if s.cursor = 2 then lengthHighByte b s
  else if s.cursor = 3 then lengthLowByte b s
  else if s.cursor = s.frameLen + 2 then checksumHighByte b s
  else if s.cursor = s.frameLen + 3 then checksumLowByte b s
  else payloadByte b s

/-- R100 to R102: one decoder operation. `ok` is cleared first; without a byte nothing else happens. -/
def decoderStep (s : State) : State :=
  match rxRead (clearOk s) with
  | none => clearOk s
  | some (b, s') => consumeByte b s'

/-- `STEP` (R100). It raises no exception in any state (R117). -/
def execStep (s : State) : Host.Outcome State Fault Refusal := .next (decoderStep s)

end Sys2Proof.Machine
end

