-- ==== Sys2Proof/Machine/Dispatch.lean ====
section
/-! DEFINITION. One arm per operation of spec/30_encoding.md R73. -/

namespace Sys2Proof.Machine

def exec (i : Instr) (s : State) : Host.Outcome State Fault Refusal :=
  match i with
  | .step => Sys2Proof.Machine.execStep s
  | .cmdSleep => Sys2Proof.Machine.execCmdSleep s
  | .cmdWake => Sys2Proof.Machine.execCmdWake s
  | .cmdActive => Sys2Proof.Machine.execCmdActive s
  | .cmdPassive => Sys2Proof.Machine.execCmdPassive s
  | .cmdReqread => Sys2Proof.Machine.execCmdReqread s

end Sys2Proof.Machine
end

