-- ==== Sys2Proof/Machine/Perform.lean ====
section
/-! DEFINITION. What one input of the host, the transport or the clock does (spec/60_exceptions.md R184, R186, R189),
and running sequences of operations and of inputs (20_memory.md R64). -/

namespace Sys2Proof.Machine

/-- The host issues an operation word (R70). A reserved word is refused (R184). The operation sees `rxq` as it was when
it began; bytes that arrive meanwhile are appended after it (R186 item 3, R64). -/
def issueWord (w : Byte) (arriving : List Byte) (s : State) : Host.Outcome State Fault Refusal :=
  match decode w with
  | none => .refused (.reservedEncoding w)
  | some i =>
    match exec i s with
    | .next t => .next (receive arriving t)
    | .fault r => .fault r
    | .refused r => .refused r

/-- One input. Reset wins over an operation asserted with it (R186 item 2). -/
def perform (i : Input) (s : State) : Host.Outcome State Fault Refusal :=
  match i with
  | .op w arriving => issueWord w arriving s
  | .rx bytes => .next (receive bytes s)
  | .reset _ => .next (resetBlock s)
  | .tick ms => .next (advanceClock ms s)

/-- Operations issued back to back, in order (R64): each sees every effect of the earlier ones. -/
def runOps : List Instr → State → Host.Outcome State Fault Refusal
  | [], s => .next s
  | i :: is, s =>
    match exec i s with
    | .next t => runOps is t
    | .fault r => .fault r
    | .refused r => .refused r

/-- Inputs performed in order, as steps perform them when they stand in `inbox`. -/
def runInputs : List Input → State → Host.Outcome State Fault Refusal
  | [], s => .next s
  | i :: is, s =>
    match perform i s with
    | .next t => runInputs is t
    | .fault r => .fault r
    | .refused r => .refused r

/-- The bytes that an input brings to `rxq`. -/
def Input.arriving : Input → List Byte
  | .op _ bytes => bytes
  | .rx bytes => bytes
  | .reset _ => []
  | .tick _ => []

/-- The bytes that inputs bring to `rxq`, in stream order. -/
def arrivals (is : List Input) : List Byte := is.flatMap Input.arriving

/-- The host issues a STEP (R70, R73). -/
def Input.isStep : Input → Bool
  | .op w _ => decode w == some .step
  | .rx _ => false
  | .reset _ => false
  | .tick _ => false

/-- A reset, alone or asserted with an operation (R200). -/
def Input.isReset : Input → Bool
  | .op _ _ => false
  | .rx _ => false
  | .reset _ => true
  | .tick _ => false

end Sys2Proof.Machine
end

