-- ==== Sys2Proof/Machine/Step.lean ====
section
/-! DEFINITION. One step of the block and the agents around it: the oldest pending input is performed
(spec/00_scope.md R10, R11, 20_memory.md R64). -/

namespace Sys2Proof.Machine

/-- One step. A run that met a reserved word stays refused (R184); an ill-formed configuration is refused (R119, I16);
with nothing pending, nothing happens (notes/assumptions/1.md). -/
def step (s : State) : Host.Outcome State Fault Refusal :=
  match s.refusalMark with
  | some w => .refused (.reservedEncoding w)
  | none =>
    match configError s.cfg with
    | some e => .refused (.illFormedConfig e)
    | none =>
      match s.inbox with
      | [] => .next s
      | i :: rest => perform i { s with inbox := rest }

/-- The state in which the host issues the given word next. The block fetches nothing (R30), so this is the head of
`inbox`; a run already marked refused is started afresh (notes/assumptions/2.md). -/
def State.withFetchWord (s : State) (nbits w : Nat) : State :=
  { s with inbox := .op (BitVec.ofNat 8 (w % 2 ^ nbits)) [] :: s.inbox, refusalMark := none }

end Sys2Proof.Machine
end

