-- ==== Sys2Proof/Machine/HostRead.lean ====
section
/-! DEFINITION. The host procedures made of STEP: POLL and READ t (spec/30_encoding.md R78, 42_host_read.md R170 to R177).
They are the host's, not the block's: each issues the meaning of STEP and reads the outputs. -/

namespace Sys2Proof.Machine

/-- What POLL gives back: whether a frame completed, the host's own copy of the record, and the block after it. -/
structure PollReturn where
  success : Bool
  copy : Reading
  state : State
  deriving DecidableEq, Repr

/-- `POLL` (R171): one STEP, then the host reads `ok`, and `rec` only on success. -/
def poll (copy : Reading) (s : State) : PollReturn :=
  let t := decoderStep s
  if t.ok = .ok then ⟨true, t.record, t⟩ else ⟨false, copy, t⟩

/-- What the environment does around one turn of READ's loop (R170, R174). -/
structure Turn where
  /-- milliseconds from the reading before (or the start) to the reading after this turn's STEP -/
  elapse : Nat
  /-- bytes that arrive while the host yields after the turn -/
  arrive : List Byte
  /-- milliseconds that pass in that yield -/
  yieldMs : Nat
  deriving DecidableEq, Repr

/-- How a READ ends: success with the record, the `Timeout` outcome (R183), or the host abandons it after a STEP (R175). -/
inductive ReadResult where
  | success (record : Reading)
  | timeout
  | abandoned
  deriving DecidableEq, Repr

/-- What READ gives back, with the number of STEPs it performed. -/
structure ReadReturn where
  result : ReadResult
  state : State
  steps : Nat
  deriving DecidableEq, Repr

/-- What one whole turn of the loop is to the block and the agents around it: the STEP, the time up to the reading, the
bytes that arrive in the yield, the time it takes. -/
def Turn.inputs (u : Turn) : List Input :=
  [.op (encode .step) [], .tick u.elapse, .rx u.arrive, .tick u.yieldMs]

/-- What the last turn is, by how READ ends there: success ends it after the STEP, a timeout after the reading; an
abandoned READ ends after the yield (notes/assumptions/17.md). -/
def Turn.lastInputs (u : Turn) : ReadResult → List Input
  | .success _ => [.op (encode .step) []]
  | .timeout => [.op (encode .step) [], .tick u.elapse]
  | .abandoned => u.inputs

/-- One turn of the loop (R172): STEP; success if `ok`; else failure if the elapsed time is at least `t`; else the host
yields. `inr` is the state in which the next turn begins. -/
def readTurn (start t steps : Nat) (u : Turn) (s : State) : ReadReturn ⊕ State :=
  let s1 := decoderStep s
  if s1.ok = .ok then .inl ⟨.success s1.record, s1, steps + 1⟩
  else
    let s2 := advanceClock u.elapse s1
    if t ≤ elapsedSince start s2 then .inl ⟨.timeout, s2, steps + 1⟩
    else .inr (advanceClock u.yieldMs (receive u.arrive s2))

/-- The loop over the turns the environment plays. Where they run out the host has abandoned the READ (R175): the model's
form of it (notes/assumptions/17.md). -/
def readLoop (start t : Nat) : List Turn → Turn → Nat → State → ReadReturn
  | [], u, n, s =>
    match readTurn start t n u s with
    | .inl r => r
    | .inr s' => ⟨.abandoned, s', n + 1⟩
  | v :: vs, u, n, s =>
    match readTurn start t n u s with
    | .inl r => r
    | .inr s' => readLoop start t vs v (n + 1) s'

/-- `READ t` (R172): `start <- nowMillis()`, then the loop; at least one STEP is performed, so there is a first turn. -/
def readTimeout (t : Nat) (first : Turn) (more : List Turn) (s : State) : ReadReturn :=
  readLoop s.now t more first 0 s

/-- `READ` with the default timeout `TIMEOUT_DEFAULT_MS` (R78, R172). -/
def readDefault (first : Turn) (more : List Turn) (s : State) : ReadReturn :=
  readTimeout s.cfg.timeoutDefaultMs first more s

end Sys2Proof.Machine
end

