-- ==== Sys2Proof/Machine/Instances.lean ====
section
/-! DEFINITION. Several instances of the block (spec/10_state.md R36, 60_exceptions.md R189): each has its own registers
and its own transport, so a system is a list of states. The spec names one clock agent and does not say whether instances
read one common counter: that each has its own `now`, which a tick to another instance does not move, is the model's
choice (DESIGN CHOICE, notes/assumptions/26.md). -/

namespace Sys2Proof.Machine

/-- Instance `k` takes one step, its own clock included (DESIGN CHOICE, notes/assumptions/26.md); there is nothing to step
where no such instance exists. -/
def stepInstance (k : Nat) (sys : List State) : Host.Outcome (List State) Fault Refusal :=
  match sys[k]? with
  | none => .next sys
  | some s =>
    match step s with
    | .next t => .next (sys.set k t)
    | .fault r => .fault r
    | .refused r => .refused r

end Sys2Proof.Machine
end

