-- ==== Sys2Proof/Machine/Runs.lean ====
section
/-! DEFINITION. Runs of many steps: one that stops at a refusal, and one that records it and goes on
(spec/60_exceptions.md R184: "The model records the refusal in a mark that later steps never clear"). -/

namespace Sys2Proof.Machine

/-- `n` steps, stopping at the first refusal. -/
def runSteps : Nat → State → Host.Outcome State Fault Refusal
  | 0, s => .next s
  | n + 1, s =>
    match step s with
    | .next t => runSteps n t
    | .fault r => .fault r
    | .refused r => .refused r

/-- One step of a run that goes on past a refusal: the mark records the reserved word, and a refused step changes
nothing else. -/
def stepMarked (s : State) : State :=
  match step s with
  | .next t => t
  | .fault _ => s
  | .refused (.reservedEncoding w) => { s with refusalMark := some w }
  | .refused _ => s

/-- `n` such steps. -/
def runMarked : Nat → State → State
  | 0, s => s
  | n + 1, s => runMarked n (stepMarked s)

end Sys2Proof.Machine
end

