-- ==== Sys2Proof/Machine/Outcomes.lean ====
section
/-! DEFINITION. The source's outcome taxonomy for a STEP (spec/60_exceptions.md R180 to R182). The block does not surface
it (D19): it is a classification of STEPs, read from the state before, that no register holds. -/

namespace Sys2Proof.Machine

/-- R180, and success. `Timeout` is a result of READ alone (R183, Sys2Proof/Machine/HostRead.lean). -/
inductive StepReport where
  | noFrameYet
  | checksumMismatch
  | unsupportedFrameLength
  | success
  deriving DecidableEq, Repr

/-- Which outcome the STEP issued in this state has. At most one applies (R186 item 5). -/
def stepReport (s : State) : StepReport :=
  match s.rxq with
  | [] => .noFrameYet
  | b :: _ =>
    if s.cursor = 3 then
      if accepted s.cfg ((s.frameLen ||| zext b) % 2 ^ s.cfg.frameLenWidth) then .noFrameYet else .unsupportedFrameLength
    else if 4 ≤ s.cursor ∧ s.cursor = s.frameLen + 3 then
      if (s.rxSum ||| zext b) % 2 ^ s.cfg.checksumWidth = s.sumAcc then .success else .checksumMismatch
    else .noFrameYet

end Sys2Proof.Machine
end

