-- ==== Sys2Proof/Safety.lean ====
section
/-! DEFINITION. The terms claims are stated in: the invariant of reachable states (spec/10_state.md R20 to R27), the sizes and
literals the source gives (00_scope.md R5), the bound on the running sum (40_decoder.md R113), and received frames
(20_memory.md R52). -/

namespace Sys2Proof.Machine

/-- R21: either `cursor ∈ {0, 1, 2, 3}`, or `frameLen ∈ ACCEPTED` and `4 ≤ cursor ≤ frameLen + 3`. -/
def CursorInv (s : State) : Prop :=
  s.cursor ≤ 3 ∨ (accepted s.cfg s.frameLen = true ∧ 4 ≤ s.cursor ∧ s.cursor ≤ s.frameLen + 3)

/-- What holds of every state a run with a legal configuration reaches. -/
structure State.Inv (s : State) : Prop where
  /-- the configuration is one the model does not refuse (R119, R143) -/
  config : configOk s.cfg = true
  /-- R21 -/
  cursor : CursorInv s
  /-- `cursor` is a `CURSOR_W`-bit register (R20) -/
  cursorWidth : s.cursor < 2 ^ s.cfg.cursorWidth
  /-- `frameLen` is an `FLW`-bit register (R22) -/
  frameLenWidth : s.frameLen < 2 ^ s.cfg.frameLenWidth
  /-- `sumAcc` is a `CKW`-bit register (R23) -/
  sumWidth : s.sumAcc < 2 ^ s.cfg.checksumWidth
  /-- `rxSum` is a `CKW`-bit register (R24) -/
  rxWidth : s.rxSum < 2 ^ s.cfg.checksumWidth
  /-- `buf` has `PAYLOAD_CAP` bytes (R25) -/
  bufLength : s.buf.length = s.cfg.payloadCap
  /-- `rec` has `NFIELDS` fields (R27) -/
  recordLength : s.record.length = s.cfg.nFields
  /-- `txlog` holds whole frames (R58) -/
  wholeFrames : ∀ f ∈ s.txlog, f.length = s.cfg.cmdFrameLen
  /-- `now` is a `CLOCK_W`-bit counter (R170) -/
  clockWidth : s.now < 2 ^ s.cfg.clockWidth

/-- The sizes the spec's rules write out: 16-bit registers (R22 to R24) and nine fields (R27). -/
def SourceSizes (c : Config) : Prop := c.checksumWidth = 16 ∧ c.frameLenWidth = 16 ∧ c.nFields = 9

/-- The source's values of the parameters that R113's bounds depend on. -/
def SourceFraming (c : Config) : Prop :=
  c.start1 = 0x32 ∧ c.start2 = 0x3D ∧ c.lenShort = 12 ∧ c.lenLong = 28 ∧ SourceSizes c

/-- R113, made inductive: what `sumAcc` can hold at each cursor, with the source's start bytes and lengths. The fixed
header bytes sum to `0x008B` (long) or `0x007B` (short), and each payload byte adds at most `0xFF`. Between attempts the
register keeps what the last attempt left. -/
def SumBounded (s : State) : Prop :=
  s.sumAcc ≤ 0x1A71 ∧
  (s.cursor = 1 → s.sumAcc = 0x32) ∧
  (s.cursor = 2 → s.sumAcc = 0x6F) ∧
  (s.cursor = 3 → ∃ hi : Byte, s.frameLen = 256 * hi.toNat ∧ s.sumAcc = 0x6F + hi.toNat) ∧
  (4 ≤ s.cursor → s.frameLen = 28 → s.sumAcc ≤ 0x8B + 0xFF * min (s.cursor - 4) 26) ∧
  (4 ≤ s.cursor → s.frameLen = 12 → s.sumAcc ≤ 0x7B + 0xFF * min (s.cursor - 4) 10)

/-- The parts of a received frame that R52 lays out, but for the two start bytes. -/
structure RxFrame where
  lenHi : Byte
  lenLo : Byte
  payload : List Byte
  sumHi : Byte
  sumLo : Byte
  deriving DecidableEq, Repr

/-- `frameLength`, big-endian (R50, R52), as `frameLen` holds it. -/
def RxFrame.len (c : Config) (f : RxFrame) : Nat := pairAt c.frameLenWidth f.lenHi f.lenLo

/-- The checksum, big-endian (R50, R52), as `rxSum` holds it. -/
def RxFrame.checksum (c : Config) (f : RxFrame) : Nat := pairAt c.checksumWidth f.sumHi f.sumLo

/-- R52: the bytes before the checksum. -/
def RxFrame.head (c : Config) (f : RxFrame) : List Byte := [c.start1, c.start2, f.lenHi, f.lenLo] ++ f.payload

/-- R52: the frame, byte by byte. -/
def RxFrame.bytes (c : Config) (f : RxFrame) : List Byte := f.head c ++ [f.sumHi, f.sumLo]

/-- R52: an accepted length `L` and `L - 2` payload bytes. -/
def RxFrame.Framed (c : Config) (f : RxFrame) : Prop :=
  accepted c (f.len c) = true ∧ f.payload.length = f.len c - 2

/-- R52: the checksum is the sum of the bytes before it. -/
def RxFrame.Sums (c : Config) (f : RxFrame) : Prop := f.checksum c = byteSum c.checksumWidth (f.head c)

/-- R52, R121 item 1: the bytes are a well-formed frame. -/
def ValidFrame (c : Config) (bs : List Byte) : Prop := ∃ f : RxFrame, f.Framed c ∧ f.Sums c ∧ bs = f.bytes c

/-- Byte `i` of the buffer once a frame with this payload has been stored over `buf`: where the payload is shorter than the
buffer, the byte is what it was (R54, R120). -/
def storedByte (payload : List Byte) (buf : Buffer) (i : Nat) : Option Byte := (payload ++ buf.drop payload.length)[i]?

/-- R111: the record is the fields of a frame with this payload, received over the buffer `buf` (R120). -/
def CommittedFields (c : Config) (payload : List Byte) (buf : Buffer) (record : Reading) : Prop :=
  record.length = c.nFields ∧ ∀ k, k < c.nFields → ∃ hi lo : Byte,
    storedByte payload buf (2 * k) = some hi ∧ storedByte payload buf (2 * k + 1) = some lo ∧
    record[k]? = some (hi ++ lo)

/-- R141, R143: a row of the LUT that is well-formed for these parameters, offset by offset: it has the fixed bytes
everywhere but at the per-command offsets 4, 7 and 15, and bytes 14 and 15 are the 16-bit big-endian sum of bytes 0
to 13. -/
def LegalRow (c : Config) (row : Frame) : Prop :=
  row.length = c.cmdFrameLen ∧ (∀ j, j ≠ 4 → j ≠ 7 → j ≠ 15 → row[j]? = c.cmdTemplate[j]?) ∧
  ∃ hi lo : Byte, row[14]? = some hi ∧ row[15]? = some lo ∧
    256 * hi.toNat + lo.toNat = ((row.take 14).map (fun b => b.toNat)).sum % 2 ^ 16

/-- The decoder's registers (R20 to R27), which no command operation touches (R150). -/
def SameDecoder (s t : State) : Prop :=
  t.cursor = s.cursor ∧ t.frameLen = s.frameLen ∧ t.sumAcc = s.sumAcc ∧ t.rxSum = s.rxSum ∧ t.buf = s.buf ∧
  t.ok = s.ok ∧ t.record = s.record

end Sys2Proof.Machine
end

