-- ==== Sys2Proof/Certificates/Slice0/Obligations.lean ====
section
/-! DEFINITION. The statements for the provers, from the numbered rules of spec/. A statement that rests on a decision or
a derivation the spec marks as its own names it. -/

open Sys2Proof Sys2Proof.Machine

/-! ### Encoding -/

/-- 30_encoding.md section 2 (R73, the spec's decisions D2 and D3): each operation word, written bit by bit, decodes to its
operation. -/
def Obligations.OperationWordsDecode : Prop :=
  decode 0b00000000#8 = some .step ∧ decode 0b00010000#8 = some .cmdSleep ∧ decode 0b00010001#8 = some .cmdWake ∧
  decode 0b00010010#8 = some .cmdActive ∧ decode 0b00010011#8 = some .cmdPassive ∧
  decode 0b00010100#8 = some .cmdReqread

/-- 30_encoding.md sections 1 and 2 (R71, R73; D2): every well-formed operation is what its own word decodes to, and a word
that decodes is the word of its operation. -/
def Obligations.DecodeInvertsEncode : Prop :=
  (∀ i : Instr, i.wf = true → decode (encode i) = some i) ∧ ∀ (w : Byte) (i : Instr), decode w = some i → encode i = w

/-- 30_encoding.md section 3 (R74; D4): the words that do not decode are exactly the three reserved groups. -/
def Obligations.ReservedWordsDoNotDecode : Prop :=
  ∀ w : Byte, decode w = none ↔
    (0x01 ≤ w.toNat ∧ w.toNat ≤ 0x0F) ∨ (0x15 ≤ w.toNat ∧ w.toNat ≤ 0x1F) ∨ 0x20 ≤ w.toNat

/-- 30_encoding.md section 1 (R71; D2): a word decodes exactly when its fields are those of a legal word, and the fields
make up the whole word. -/
def Obligations.FieldLayoutDecidesLegality : Prop :=
  (∀ w : Byte, (decode w).isSome = (fieldsOf w).wf ∧ wordOf (fieldsOf w) = w) ∧
  ∀ f : OpFields, fieldsOf (wordOf f) = f

/-- 30_encoding.md sections 1 and 2 (R70, R73, R74): a sequence of operations of any length is read back from its words,
nothing else reads as it, and a rejected sequence is rejected at its first reserved word, by that word. -/
def Obligations.OperationSequencesRoundTrip : Prop :=
  (∀ is : List Instr, (∀ i ∈ is, i.wf = true) → decodeAll (is.map encode) = .ok is) ∧
  (∀ (ws : List Byte) (is : List Instr), decodeAll ws = .ok is → ws = is.map encode) ∧
  (∀ (ws : List Byte) (e : DecodeError), decodeAll ws = .error e →
    ∃ (is : List Instr) (w : Byte) (rest : List Byte),
      e = .reservedEncoding w ∧ decode w = none ∧ ws = is.map encode ++ w :: rest)

/-! ### Steps, refusals, the environment -/

/-- 30_encoding.md section 1 and 20_memory.md section 6 (R70, R64, D15, D17): when the pending input is an operation word
that decodes, the step is the operation at that state, and the bytes that arrive while it is performed are appended
after it. `configOk` and the absent mark are what a run with a legal configuration and no reserved word has. -/
def Obligations.StepRunsTheDecodedOperation : Prop :=
  ∀ (s : State) (w : Byte) (arriving : List Byte) (rest : List Input) (i : Instr),
    s.refusalMark = none → configOk s.cfg = true → s.inbox = .op w arriving :: rest → decode w = some i →
    ∃ t, exec i { s with inbox := rest } = .next t ∧ step s = .next { t with rxq := t.rxq ++ arriving }

/-- 60_exceptions.md section 1 (R184; D4): a reserved word is refused by name. That a run which goes on records it in the
mark and changes nothing else, so that the refused word stays pending, is the model's form of R184's mark (DESIGN CHOICE,
log 11). -/
def Obligations.ReservedWordIsRefusedAndMarked : Prop :=
  ∀ (s : State) (w : Byte) (arriving : List Byte) (rest : List Input),
    s.refusalMark = none → configOk s.cfg = true → s.inbox = .op w arriving :: rest → decode w = none →
    step s = .refused (.reservedEncoding w) ∧ stepMarked s = { s with refusalMark := some w }

/-- 60_exceptions.md section 1 (R184; D4): later steps never clear the mark (the model refuses them all, log 11); and a run
without the mark is a run without a refusal. -/
def Obligations.RefusalMarkPersists : Prop :=
  (∀ (n : Nat) (s : State) (w : Byte), s.refusalMark = some w →
    step s = .refused (.reservedEncoding w) ∧ runMarked n s = s) ∧
  (∀ (n : Nat) (s : State), configOk s.cfg = true → (runMarked n s).refusalMark = none →
    runSteps n s = .next (runMarked n s))

/-- 40_decoder.md section 3 and 41_command.md section 1 (R119, R141, R143; D11, D28) and 93_implementation_defined.md I16: a
configuration that violates a constraint is refused, with the constraint. The refusals commandCount and commandFrameLen
(log 3) and noLegalRow (log 4) are the model's choice (DESIGN CHOICE): no rule of the spec names them. -/
def Obligations.IllFormedConfigurationIsRefused : Prop :=
  ∀ (s : State) (e : ConfigError), s.refusalMark = none → configError s.cfg = some e →
    step s = .refused (.illFormedConfig e)

/-- 40_decoder.md section 3 and 41_command.md section 1 (R119, R141, R143; D11, D28): which configurations are not refused.
The bounds on `NCMD` and `CMD_FRAME_LEN`, that the fixed bytes and the named table fit them, and that rows beyond the fifth
are held to R141 and R143 too, are the model's choice (DESIGN CHOICE, log 3); that the built-in LUT needs a row to exist is
the model's choice (DESIGN CHOICE, log 4). -/
def Obligations.ConfigurationConstraints : Prop :=
  ∀ c : Config, configOk c = true ↔
    c.payloadCap = 2 * c.nFields ∧
    (∀ len : Nat, (len = c.lenLong ∨ (c.acceptShort = true ∧ len = c.lenShort)) →
      2 ≤ len ∧ len + 3 < 2 ^ c.cursorWidth) ∧
    5 ≤ c.nCmd ∧ 16 ≤ c.cmdFrameLen ∧ c.cmdTemplate.length = c.cmdFrameLen ∧
    (c.cmdLut = .builtIn → ∃ row, LegalRow c row) ∧
    (∀ rows more, c.cmdLut = .table rows more →
      c.nCmd = 5 + more.length ∧ ∀ row ∈ rows.toList ++ more, LegalRow c row)

/-- 10_state.md section 6 and 42_host_read.md section 1 (R35, R170; D12, D21): received bytes go to the end of `rxq`, time
to the wrapping clock, and nothing else changes; with nothing pending nothing happens (the model's choice, log 1). -/
def Obligations.EnvironmentInputsActOnlyOnTheirOwnState : Prop :=
  ∀ (s : State) (rest : List Input), s.refusalMark = none → configOk s.cfg = true →
    (s.inbox = [] → step s = .next s) ∧
    (∀ bytes, s.inbox = .rx bytes :: rest → step s = .next { s with inbox := rest, rxq := s.rxq ++ bytes }) ∧
    (∀ ms, s.inbox = .tick ms :: rest →
      step s = .next { s with inbox := rest, now := (s.now + ms) % 2 ^ s.cfg.clockWidth })

/-- 70_reset_and_hazards.md section 1 (R200, R201; D7, D23) and 60_exceptions.md section 2 (R186 item 2; D17): the reset
event puts every register to its reset value and leaves the transport alone, and an operation asserted with it is not
performed. Beyond those rules, the model's choice: that a reserved word asserted with it is not refused (DESIGN CHOICE,
log 9), and that the clock, the parameters, the pending inputs and the absent mark stay (DEDUCED, log 8). -/
def Obligations.ResetEventRestoresTheRegisters : Prop :=
  ∀ (s : State) (concurrent : Option Byte) (rest : List Input),
    s.refusalMark = none → configOk s.cfg = true → s.inbox = .reset concurrent :: rest →
    step s = .next
      { cfg := s.cfg, cursor := 0, frameLen := 0, sumAcc := 0, rxSum := 0,
        buf := List.replicate s.cfg.payloadCap 0x00, ok := .waiting,
        record := List.replicate s.cfg.nFields 0x0000, mode := .active,
        rxq := s.rxq, txlog := s.txlog, now := s.now, inbox := rest, refusalMark := none }

/-- 10_state.md section 7 (R37; D7): the registers after reset, with the default parameters of R5. The values of `rxq`,
`txlog`, `now` and `inbox` are the model's choice (log 7) and are not stated. -/
def Obligations.ResetStateHoldsTheResetValues : Prop :=
  State.reset.cfg = Config.default ∧ State.reset.cursor = 0 ∧ State.reset.frameLen = 0 ∧ State.reset.sumAcc = 0 ∧
  State.reset.rxSum = 0 ∧ State.reset.buf = List.replicate 18 0x00 ∧ State.reset.ok = .waiting ∧
  State.reset.record = List.replicate 9 0x0000 ∧ State.reset.mode = .active

/-- 70_reset_and_hazards.md section 1 (R203; D7, D26) and 10_state.md section 1 (R21, derived): the first state of a block
with any legal configuration meets the invariant, and the bound on the sum where it has the source's start bytes, lengths
and sizes. State.reset is that state for the default parameters, which are legal and are the source's. That `txlog` is
empty and `now` 0 at power-up is the model's choice (DESIGN CHOICE, log 7). -/
def Obligations.InvariantHoldsAtReset : Prop :=
  (∀ c : Config, configOk c = true → (powerUp c).Inv ∧ (SourceFraming c → SumBounded (powerUp c))) ∧
  State.reset = powerUp Config.default ∧ configOk Config.default = true ∧ SourceFraming Config.default

/-- 10_state.md sections 1 and 2 (R20 to R25, R27; R21 derived) and 20_memory.md section 4 (R58): every step keeps the
invariant: the configuration, the cursor's place in a frame of an accepted length, the widths of the registers and of the
clock, the lengths of `buf` and `rec`, and that `txlog` holds whole frames. -/
def Obligations.StepKeepsTheInvariant : Prop :=
  ∀ s t : State, s.Inv → step s = .next t → t.Inv

/-! ### STEP, transition by transition -/

/-- R102: no byte available. -/
def Obligations.StepWithoutByteClearsOk : Prop :=
  ∀ s : State, s.rxq = [] → exec .step s = .next { s with ok := .waiting }

/-- R103: cursor 0, at the sizes the rule writes out. The value STEP leaves in `ok` (R101) is left open here and stated by
OkReportsThisStep. -/
def Obligations.StepAtCursorZero : Prop :=
  ∀ (s : State) (b : Byte) (rest : List Byte), configOk s.cfg = true → SourceSizes s.cfg → s.rxq = b :: rest →
    s.cursor = 0 →
    ∃ r : StepResult,
      (b ≠ s.cfg.start1 → exec .step s = .next { s with ok := r, rxq := rest }) ∧
      (b = s.cfg.start1 →
        exec .step s = .next { s with ok := r, rxq := rest, sumAcc := b.toNat, cursor := 1 })

/-- R104: cursor 1. Sizes and `ok` as in StepAtCursorZero. -/
def Obligations.StepAtCursorOne : Prop :=
  ∀ (s : State) (b : Byte) (rest : List Byte), configOk s.cfg = true → SourceSizes s.cfg → s.rxq = b :: rest →
    s.cursor = 1 →
    ∃ r : StepResult,
      (b ≠ s.cfg.start2 → exec .step s = .next { s with ok := r, rxq := rest, cursor := 0 }) ∧
      (b = s.cfg.start2 →
        exec .step s = .next { s with ok := r, rxq := rest, sumAcc := (s.sumAcc + b.toNat) % 2 ^ 16, cursor := 2 })

/-- R105: cursor 2. Sizes and `ok` as in StepAtCursorZero. -/
def Obligations.StepAtCursorTwo : Prop :=
  ∀ (s : State) (b : Byte) (rest : List Byte), configOk s.cfg = true → SourceSizes s.cfg → s.rxq = b :: rest →
    s.cursor = 2 →
    ∃ r : StepResult,
      exec .step s = .next { s with ok := r, rxq := rest, sumAcc := (s.sumAcc + b.toNat) % 2 ^ 16,
                                    frameLen := 256 * b.toNat, cursor := 3 }

/-- 40_decoder.md section 2 (R106, R107; D6 for the accepted lengths, D9 for the rejected value): cursor 3, for every `CKW`
and `FLW` (what the operators are at other widths than 16 is the model's choice, DESIGN CHOICE, log 3). `ok` as in
StepAtCursorZero. -/
def Obligations.StepAtCursorThree : Prop :=
  ∀ (s : State) (b : Byte) (rest : List Byte), configOk s.cfg = true → s.rxq = b :: rest → s.cursor = 3 →
    let len := (s.frameLen ||| b.toNat) % 2 ^ s.cfg.frameLenWidth
    let ok := len = s.cfg.lenLong ∨ (s.cfg.acceptShort = true ∧ len = s.cfg.lenShort)
    ∃ r : StepResult,
      (¬ ok → exec .step s = .next { s with ok := r, rxq := rest, frameLen := len, cursor := 0 }) ∧
      (ok → exec .step s = .next { s with
        ok := r, rxq := rest, frameLen := len,
        sumAcc := (s.sumAcc + b.toNat) % 2 ^ s.cfg.checksumWidth, cursor := 4 })

/-- R109: checksum high byte, at the sizes the rule writes out. The invariant says that `frameLen` is an accepted length
there (R21, R108). `ok` as in StepAtCursorZero. -/
def Obligations.StepAtChecksumHighByte : Prop :=
  ∀ (s : State) (b : Byte) (rest : List Byte), s.Inv → SourceSizes s.cfg → s.rxq = b :: rest → 4 ≤ s.cursor →
    s.cursor = s.frameLen + 2 →
    ∃ r : StepResult,
      exec .step s = .next { s with ok := r, rxq := rest, rxSum := 256 * b.toNat, cursor := s.frameLen + 3 }

/-- R110, R111: checksum low byte, comparison, record commit and the end of the attempt, at the sizes the rules write out.
The invariant says that the buffer has its 18 bytes and `rxSum` its width. -/
def Obligations.StepAtChecksumLowByte : Prop :=
  ∀ (s : State) (b : Byte) (rest : List Byte), s.Inv → SourceSizes s.cfg → s.rxq = b :: rest → 4 ≤ s.cursor →
    s.cursor = s.frameLen + 3 →
    let received := s.rxSum ||| b.toNat
    (received = s.sumAcc →
      ∃ fields : Reading,
        exec .step s = .next { s with
          rxq := rest, rxSum := received, cursor := 0, ok := .ok, record := fields } ∧
        fields.length = 9 ∧ ∀ k, k < 9 → ∃ hi lo : Byte,
          s.buf[2 * k]? = some hi ∧ s.buf[2 * k + 1]? = some lo ∧ fields[k]? = some (hi ++ lo)) ∧
    (received ≠ s.sumAcc →
      exec .step s = .next { s with rxq := rest, rxSum := received, cursor := 0, ok := .waiting })

/-- R112: payload byte, at the sizes the rule writes out. The invariant says that `frameLen` is an accepted length there
(R21, R108). `ok` as in StepAtCursorZero. -/
def Obligations.StepAtPayloadByte : Prop :=
  ∀ (s : State) (b : Byte) (rest : List Byte), s.Inv → SourceSizes s.cfg → s.rxq = b :: rest → 4 ≤ s.cursor →
    s.cursor ≤ s.frameLen + 1 →
    s.cfg.payloadCap = 18 ∧ ∃ r : StepResult,
      (s.cursor - 4 < 18 →
        exec .step s = .next { s with ok := r, rxq := rest, sumAcc := (s.sumAcc + b.toNat) % 2 ^ 16,
                                      buf := s.buf.set (s.cursor - 4) b, cursor := s.cursor + 1 }) ∧
      (18 ≤ s.cursor - 4 →
        exec .step s = .next { s with ok := r, rxq := rest, sumAcc := (s.sumAcc + b.toNat) % 2 ^ 16,
                                      cursor := s.cursor + 1 })

/-- R117: STEP is legal in every state and for every byte, with no precondition on `cursor`, `mode` or `rxq`; a checksum
mismatch and an unaccepted length end in resync and `ok = 0`; without a byte nothing but `ok` changes. It takes at most
one byte off `rxq` and touches neither `mode` nor `txlog` nor anything else outside the decoder. -/
def Obligations.StepIsAlwaysLegal : Prop :=
  ∀ s : State, ∃ t, exec .step s = .next t ∧
    (stepReport s = .checksumMismatch ∨ stepReport s = .unsupportedFrameLength → t.cursor = 0 ∧ t.ok = .waiting) ∧
    (s.rxq = [] → t = { s with ok := .waiting }) ∧
    t.rxq = s.rxq.tail ∧ t.cfg = s.cfg ∧ t.mode = s.mode ∧ t.txlog = s.txlog ∧ t.now = s.now ∧ t.inbox = s.inbox ∧
    t.refusalMark = s.refusalMark

/-- 40_decoder.md section 2 (R101; D5): `ok` is 1 after a STEP exactly when that STEP consumed a checksum low byte that
completes a match, and 0 otherwise; for every `CKW` (other widths than 16: DESIGN CHOICE, log 3). -/
def Obligations.OkReportsThisStep : Prop :=
  ∀ s t : State, exec .step s = .next t →
    (t.ok = .ok ↔ ∃ (b : Byte) (rest : List Byte), s.rxq = b :: rest ∧ 4 ≤ s.cursor ∧
      s.cursor = s.frameLen + 3 ∧ (s.rxSum ||| b.toNat) % 2 ^ s.cfg.checksumWidth = s.sumAcc)

/-- 60_exceptions.md section 1 (R180 to R182; D19): a STEP without success leaves outputs that say nothing of why: `ok` is
0, the record and `mode` are as before. The report is success exactly when `ok` is 1. -/
def Obligations.UnsuccessfulStepsLookAlike : Prop :=
  ∀ s t : State, exec .step s = .next t →
    (stepReport s = .success ↔ t.ok = .ok) ∧
    (stepReport s ≠ .success → outputs t = { ok := 0, record := s.record, mode := s.mode.bit })

/-- 10_state.md section 4 (R20, R30; D8, D14): each STEP leaves `cursor` alone, increments it by 1 or returns it to 0. The
second clause says at every size of R5 what a STEP with a byte leaves, position by position (40_decoder.md section 2, but for
cursor 3, which StepAtCursorThree states at every size): sizes other than the source's are the model's choice (DESIGN CHOICE,
log 3), as `ok` is the spec's D5. -/
def Obligations.CursorMovesByOneOrToZero : Prop :=
  (∀ s t : State, s.Inv → exec .step s = .next t →
    t.cursor = s.cursor ∨ t.cursor = s.cursor + 1 ∨ t.cursor = 0) ∧
  ∀ (s : State) (b : Byte) (rest : List Byte), s.Inv → s.rxq = b :: rest →
    let sum := (s.sumAcc + b.toNat) % 2 ^ s.cfg.checksumWidth
    let received := (s.rxSum ||| b.toNat) % 2 ^ s.cfg.checksumWidth
    let u : State := { s with ok := .waiting, rxq := rest }
    (s.cursor = 0 → exec .step s = .next
      (if b = s.cfg.start1 then { u with sumAcc := b.toNat % 2 ^ s.cfg.checksumWidth, cursor := 1 } else u)) ∧
    (s.cursor = 1 → exec .step s = .next
      (if b = s.cfg.start2 then { u with sumAcc := sum, cursor := 2 } else { u with cursor := 0 })) ∧
    (s.cursor = 2 → exec .step s = .next
      { u with sumAcc := sum, frameLen := 256 * b.toNat % 2 ^ s.cfg.frameLenWidth, cursor := 3 }) ∧
    (4 ≤ s.cursor → s.cursor = s.frameLen + 2 → exec .step s = .next
      { u with rxSum := 256 * b.toNat % 2 ^ s.cfg.checksumWidth, cursor := s.frameLen + 3 }) ∧
    (4 ≤ s.cursor → s.cursor = s.frameLen + 3 → exec .step s = .next
      (if received = s.sumAcc then
        { u with rxSum := received, cursor := 0, ok := .ok, record := fieldsOfBuffer s.buf }
      else { u with rxSum := received, cursor := 0 })) ∧
    (4 ≤ s.cursor → s.cursor ≤ s.frameLen + 1 → exec .step s = .next
      { u with
        sumAcc := sum, cursor := s.cursor + 1,
        buf := if s.cursor - 4 < s.cfg.payloadCap then s.buf.set (s.cursor - 4) b else s.buf })

/-- R55: the nine fields of a commit are big-endian pairs of the buffer, under the names of R27. -/
def Obligations.RecordFieldsAreBigEndianPairs : Prop :=
  ∀ b0 b1 b2 b3 b4 b5 b6 b7 b8 b9 b10 b11 b12 b13 b14 b15 b16 b17 : Byte,
    let fields := fieldsOfBuffer [b0, b1, b2, b3, b4, b5, b6, b7, b8, b9, b10, b11, b12, b13, b14, b15, b16, b17]
    fields = [b0 ++ b1, b2 ++ b3, b4 ++ b5, b6 ++ b7, b8 ++ b9, b10 ++ b11, b12 ++ b13, b14 ++ b15, b16 ++ b17] ∧
    pm1_0 fields = some (b0 ++ b1) ∧ pm2_5 fields = some (b2 ++ b3) ∧ pm10_0 fields = some (b4 ++ b5) ∧
    pmNum0_3 fields = some (b6 ++ b7) ∧ pmNum0_5 fields = some (b8 ++ b9) ∧ pmNum1_0 fields = some (b10 ++ b11) ∧
    pmNum2_5 fields = some (b12 ++ b13) ∧ pmNum5_0 fields = some (b14 ++ b15) ∧ pmNum10_0 fields = some (b16 ++ b17)

/-- 20_memory.md section 6 and 60_exceptions.md section 2 (R57, R64, R186 item 3; D12, D17): a STEP that has a byte does
the same whatever bytes stand behind it, so it does not matter when they arrive. -/
def Obligations.BytesBehindTheFirstDoNotMatter : Prop :=
  ∀ (s t : State) (more : List Byte), s.rxq ≠ [] → exec .step s = .next t →
    exec .step { s with rxq := s.rxq ++ more } = .next { t with rxq := t.rxq ++ more }

/-! ### Whole-machine rules -/

/-- 10_state.md section 2, 20_memory.md section 5 and 70_reset_and_hazards.md section 3 (R27, R62, R208): a step changes the
record only by a commit, in a STEP that sets `ok`, all fields at once, or by reset. -/
def Obligations.RecordChangesOnlyByCommitOrReset : Prop :=
  ∀ s t : State, s.Inv → step s = .next t →
    t.record = s.record ∨
    (∃ w arriving rest, s.inbox = .op w arriving :: rest ∧ decode w = some .step ∧ t.ok = .ok ∧
      t.record.length = s.cfg.nFields ∧ ∀ k, k < s.cfg.nFields → ∃ hi lo : Byte,
        s.buf[2 * k]? = some hi ∧ s.buf[2 * k + 1]? = some lo ∧ t.record[k]? = some (hi ++ lo)) ∨
    (∃ concurrent rest, s.inbox = .reset concurrent :: rest ∧ t.record = List.replicate s.cfg.nFields 0)

/-- R115: no register of the decoder changes except by STEP and by reset; no command touches one. -/
def Obligations.DecoderChangesOnlyByStepOrReset : Prop :=
  (∀ s t : State, step s = .next t → ¬ SameDecoder s t →
    (∃ w arriving rest, s.inbox = .op w arriving :: rest ∧ decode w = some .step ∧
      ∃ u, exec .step { s with inbox := rest } = .next u ∧ SameDecoder u t) ∨
    (∃ concurrent rest, s.inbox = .reset concurrent :: rest)) ∧
  (∀ (i : Instr) (s : State), i ≠ .step → ∃ t, exec i s = .next t ∧ SameDecoder s t)

/-- 10_state.md sections 3 and 4 (R28, R31; D24): `mode` is written only by CMD.ACTIVE, CMD.PASSIVE and reset. -/
def Obligations.ModeChangesOnlyByItsCommandsOrReset : Prop :=
  ∀ s t : State, step s = .next t → t.mode ≠ s.mode →
    (∃ arriving rest, s.inbox = .op 0x12 arriving :: rest ∧ t.mode = .active) ∨
    (∃ arriving rest, s.inbox = .op 0x13 arriving :: rest ∧ t.mode = .passive) ∨
    (∃ concurrent rest, s.inbox = .reset concurrent :: rest ∧ t.mode = .active)

/-- 20_memory.md section 6 (R64; D15): operations pending back to back take effect in the order the host issued them. -/
def Obligations.OperationsTakeEffectInIssueOrder : Prop :=
  ∀ (is : List Instr) (s : State) (rest : List Input), s.refusalMark = none → configOk s.cfg = true →
    s.inbox = is.map (fun i => .op (encode i) []) ++ rest →
    ∃ t, runOps is { s with inbox := rest } = .next t ∧ runSteps is.length s = .next t

/-- 10_state.md section 6 (R36) and 60_exceptions.md section 3 (R189; D15): instance `k` becomes what `step` gives for its own
state, whatever the other instances are, and every other instance stays as it was. That a step of one instance moves no
other instance's clock is the model's choice (DESIGN CHOICE, log 26). -/
def Obligations.InstancesAreIndependent : Prop :=
  ∀ (sys : List State) (k : Nat) (s : State), sys[k]? = some s →
    (∀ t, step s = .next t → ∃ sys', stepInstance k sys = .next sys' ∧ sys'.length = sys.length ∧
      sys'[k]? = some t ∧ ∀ j, j ≠ k → sys'[j]? = sys[j]?) ∧
    (∀ r, step s = .refused r → stepInstance k sys = .refused r) ∧
    (∀ sys' other : List State, stepInstance k sys = .next sys' → other[k]? = some s →
      ∃ other', stepInstance k other = .next other' ∧ other'[k]? = sys'[k]?)

/-! ### Commands and the LUT -/

/-- R145. The encoding is the spec's decision D2. -/
def Obligations.SleepSendsRowZero : Prop :=
  decode 0x10 = some .cmdSleep ∧
  ∀ s : State, exec .cmdSleep s = .next { s with txlog := s.txlog ++ [lutRead s.cfg 0] }

/-- R146. The encoding is the spec's decision D2. -/
def Obligations.WakeSendsRowOne : Prop :=
  decode 0x11 = some .cmdWake ∧
  ∀ s : State, exec .cmdWake s = .next { s with txlog := s.txlog ++ [lutRead s.cfg 1] }

/-- R147. The encoding is the spec's decision D2. -/
def Obligations.ActiveSendsRowTwoAndRecordsActive : Prop :=
  decode 0x12 = some .cmdActive ∧
  ∀ s : State, exec .cmdActive s = .next { s with txlog := s.txlog ++ [lutRead s.cfg 2], mode := .active }

/-- R148. The encoding is the spec's decision D2. -/
def Obligations.PassiveSendsRowThreeAndRecordsPassive : Prop :=
  decode 0x13 = some .cmdPassive ∧
  ∀ s : State, exec .cmdPassive s = .next { s with txlog := s.txlog ++ [lutRead s.cfg 3], mode := .passive }

/-- R149. The encoding is the spec's decision D2. -/
def Obligations.ReqreadSendsRowFourOnlyInPassiveMode : Prop :=
  decode 0x14 = some .cmdReqread ∧
  ∀ s : State,
    (s.mode = .passive → exec .cmdReqread s = .next { s with txlog := s.txlog ++ [lutRead s.cfg 4] }) ∧
    (s.mode = .active → exec .cmdReqread s = .next s)

/-- R150: a command writes none of `cursor`, `frameLen`, `sumAcc`, `rxSum`, `buf`, `ok`, `rec`, `rxq`, and what it does
with `txlog` and `mode` does not depend on them: two states with the same parameters, `mode` and `txlog`. -/
def Obligations.CommandsIgnoreTheDecoder : Prop :=
  ∀ (i : Instr) (s s' t t' : State), i ≠ .step → exec i s = .next t → exec i s' = .next t' →
    (SameDecoder s t ∧ t.rxq = s.rxq) ∧
    (s'.cfg = s.cfg → s'.mode = s.mode → s'.txlog = s.txlog → t'.mode = t.mode ∧ t'.txlog = t.txlog)

/-- 20_memory.md section 4 (R60): `LutRead` gives the row of the named table, and no step writes the LUT. That the built-in
table's row is the free row of log 4, and that no step writes any other parameter, which the model holds in State (log 3),
are the model's choice (DESIGN CHOICE). -/
def Obligations.LutIsReadOnly : Prop :=
  (∀ (c : Config) (rows : Vector Frame 5) (more : List Frame) (r : Fin 5),
    c.cmdLut = .table rows more → lutRead c r = rows[r]) ∧
  (∀ (c : Config) (r : Fin 5), c.cmdLut = .builtIn → lutRead c r = builtInRow c.cmdTemplate r) ∧
  (∀ s t : State, step s = .next t → t.cfg = s.cfg ∧ ∀ r : Fin 5, lutRead t.cfg r = lutRead s.cfg r)

/-- R141: the fixed bytes of every row, for every configuration that is not refused and has the source's fixed bytes. -/
def Obligations.RowsCarryTheFixedBytes : Prop :=
  ∀ (c : Config) (r : Fin 5), configOk c = true → c.cmdTemplate = Config.sourceTemplate →
    ∃ op var ck : Byte, lutRead c r =
      [0x33, 0x3E, 0x00, 0x0C, op, 0x00, 0x00, var, 0x00, 0x00, 0x00, 0x00, 0x00, 0x00, 0x01, ck]

/-- 41_command.md section 1 (R143; D11, D28): bytes 14 and 15 of every row are the 16-bit big-endian sum of bytes 0 to 13, and
the row has the configured fixed bytes and length, for every configuration that is not refused, the free built-in table
(DESIGN CHOICE, log 4) and every `CMD_FRAME_LEN` (DESIGN CHOICE, log 3) among them. -/
def Obligations.RowsEndInTheirChecksum : Prop :=
  ∀ (c : Config) (r : Fin 5), configOk c = true → LegalRow c (lutRead c r)

/-- 41_command.md section 1 (R143; D11): with the fixed bytes of R141, a row meets the checksum rule exactly when
`131 ≤ op + var ≤ 386` and `ck = (0x7D + op + var) mod 256`. -/
def Obligations.RowChecksumRange : Prop :=
  ∀ op var ck : Byte, rowChecksumOk (commandRow Config.sourceTemplate op var ck) = true ↔
    131 ≤ op.toNat + var.toNat ∧ op.toNat + var.toNat ≤ 386 ∧ ck.toNat = (0x7D + op.toNat + var.toNat) % 256

/-- 41_command.md section 1 (R141 to R143; D10, D11, D28), and the model's free values (DESIGN CHOICE, log 4): for any fixed
bytes, the rows the free values can take are exactly the rows that meet R141 and R143, so leaving them free shuts out no
legal table and admits no other; where there is no legal row, hasOpenRow says so. -/
def Obligations.FreeRowsAreExactlyTheLegalRows : Prop :=
  ∀ (c : Config) (row : Frame), 16 ≤ c.cmdFrameLen → c.cmdTemplate.length = c.cmdFrameLen →
    (LegalRow c row ↔
      hasOpenRow c.cmdTemplate = true ∧ ∃ rawSum rawOp : Byte, row = openRow c.cmdTemplate rawSum rawOp)

/-- 41_command.md section 1 (R144, derived): the decoder never accepts a command frame as a received frame: fed a whole row
from cursor 0, no STEP sets `ok` and the record is untouched. -/
def Obligations.CommandRowsAreNotReceivedFrames : Prop :=
  ∀ (s : State) (r : Fin 5) (rest : List Byte) (n : Nat),
    configOk s.cfg = true → s.cfg.cmdTemplate = Config.sourceTemplate → s.cfg.start1 = 0x32 → s.cfg.start2 = 0x3D →
    s.cursor = 0 → s.rxq = lutRead s.cfg r ++ rest → 1 ≤ n → n ≤ 16 →
    ∃ t, runOps (List.replicate n .step) s = .next t ∧ t.ok = .waiting ∧ t.record = s.record

/-! ### Checksum arithmetic -/

/-- 40_decoder.md section 3 (R113, derived): with the source's start bytes and lengths, every step keeps the bound on the
running sum. -/
def Obligations.StepKeepsTheSumBound : Prop :=
  ∀ s t : State, s.Inv → SourceFraming s.cfg → SumBounded s → step s = .next t → SumBounded t

/-- 40_decoder.md section 3 (R113, derived): so a received checksum above `0x1A71` (long) or `0x0A71` (short) never
matches. -/
def Obligations.ChecksumAboveTheBoundNeverMatches : Prop :=
  ∀ s t : State, s.Inv → SourceFraming s.cfg → SumBounded s → exec .step s = .next t → t.ok = .ok →
    (s.frameLen = 28 → t.rxSum ≤ 0x1A71) ∧ (s.frameLen = 12 → t.rxSum ≤ 0x0A71) ∧
    (s.frameLen = 28 ∨ s.frameLen = 12)

/-! ### Frames -/

/-- 40_decoder.md section 3 (R121 item 1, derived): if a STEP of a run of operations from cursor 0 sets `ok`, then the bytes
consumed last are a well-formed frame, consecutive in the stream, and `cursor` was 0 when its first byte was consumed. Other sizes
than the source's: DESIGN CHOICE, log 3. -/
def Obligations.SuccessNeedsAWellFormedFrame : Prop :=
  ∀ (ops : List Instr) (s t : State), configOk s.cfg = true → s.cursor = 0 →
    runOps (ops ++ [.step]) s = .next t → t.ok = .ok →
    ∃ (before after : List Instr) (u : State) (frame : List Byte),
      before ++ after = ops ++ [.step] ∧ runOps before s = .next u ∧ u.cursor = 0 ∧
      u.rxq = frame ++ t.rxq ∧ ValidFrame s.cfg frame

/-- 40_decoder.md section 3 (R121 item 2, derived; C6): a stream in which `START1` is never immediately followed by `START2`
never sets `ok` and never writes the record. -/
def Obligations.NoStartPairNoSuccess : Prop :=
  ∀ (n : Nat) (s : State), configOk s.cfg = true → s.cursor = 0 →
    (∀ before after : List Byte, s.rxq ≠ before ++ s.cfg.start1 :: s.cfg.start2 :: after) → 1 ≤ n →
    ∃ t, runOps (List.replicate n .step) s = .next t ∧ t.ok = .waiting ∧ t.record = s.record

/-- 40_decoder.md section 3 (R121 item 3 and R115; C9) and section 3 (R120; D6, D25): a valid frame that starts at cursor 0
and arrives in any pieces, among any operations, STEPs without a byte and ticks, but no reset. Until its last byte is
consumed the record keeps its value and no STEP sets `ok`; the STEP that consumes its last byte sets `ok` and commits its
fields; and they stay. `later` is what arrives after `is`. Where the payload is shorter than the buffer, the rest of the
buffer is what it was before. Other sizes than the source's: DESIGN CHOICE, log 3. -/
def Obligations.ValidFrameSucceedsExactlyOnce : Prop :=
  ∀ (s t : State) (f : RxFrame) (is : List Input) (later rest : List Byte),
    s.Inv → s.cursor = 0 → f.Framed s.cfg → f.Sums s.cfg →
    s.rxq ++ arrivals is ++ later = f.bytes s.cfg ++ rest → (∀ i ∈ is, i.isReset = false) →
    runInputs is s = .next t →
    let consumed := (s.rxq ++ arrivals is).length - t.rxq.length
    let total := (f.bytes s.cfg).length
    (consumed < total → t.record = s.record ∧ (is.any Input.isStep = true → t.ok = .waiting)) ∧
    (consumed + 1 = total → t.rxq ≠ [] → ∃ u, exec .step t = .next u ∧ u.ok = .ok ∧ u.cursor = 0 ∧
      u.rxq ++ later = rest ∧ CommittedFields s.cfg f.payload s.buf u.record) ∧
    (consumed = total → t.cursor = 0 ∧ t.rxq ++ later = rest ∧ CommittedFields s.cfg f.payload s.buf t.record)

/-- 40_decoder.md section 3 (R121 item 4 and R115, derived): the same frame, arriving in the same ways, with its checksum
changed never succeeds: no STEP during it sets `ok`, the record keeps its value, and the attempt ends at cursor 0. Other
sizes than the source's: DESIGN CHOICE, log 3. -/
def Obligations.AlteredChecksumNeverSucceeds : Prop :=
  ∀ (s t : State) (f : RxFrame) (is : List Input) (later rest : List Byte),
    s.Inv → s.cursor = 0 → f.Framed s.cfg → ¬ f.Sums s.cfg →
    s.rxq ++ arrivals is ++ later = f.bytes s.cfg ++ rest → (∀ i ∈ is, i.isReset = false) →
    runInputs is s = .next t →
    let consumed := (s.rxq ++ arrivals is).length - t.rxq.length
    let total := (f.bytes s.cfg).length
    (consumed ≤ total → t.record = s.record ∧ (is.any Input.isStep = true → t.ok = .waiting)) ∧
    (consumed = total → t.cursor = 0 ∧ t.rxq ++ later = rest)

/-- 40_decoder.md section 3 (R121 item 5, derived; C5): one garbage byte before a valid frame. Other than `START1` it has no
effect, and the frame succeeds at its last byte; a `START1` costs the frame both its start bytes, and the decoder is at
cursor 0 behind them. Other sizes than the source's: DESIGN CHOICE, log 3. -/
def Obligations.GarbageByteBeforeAFrame : Prop :=
  ∀ (s : State) (g : Byte) (f : RxFrame) (rest : List Byte),
    s.Inv → s.cursor = 0 → f.Framed s.cfg → f.Sums s.cfg → s.rxq = g :: f.bytes s.cfg ++ rest →
    (g ≠ s.cfg.start1 → ∃ t, runOps (List.replicate ((f.bytes s.cfg).length + 1) .step) s = .next t ∧
      t.ok = .ok ∧ t.rxq = rest ∧ CommittedFields s.cfg f.payload s.buf t.record) ∧
    (g = s.cfg.start1 → s.cfg.start1 ≠ s.cfg.start2 → ∃ t, runOps [.step, .step, .step] s = .next t ∧
      t.cursor = 0 ∧ t.ok = .waiting ∧ t.record = s.record ∧ t.buf = s.buf ∧
      s.rxq = g :: s.cfg.start1 :: s.cfg.start2 :: t.rxq)

/-! ### Hidden state -/

/-- 10_state.md section 5 (R34, derived; D25): `sumAcc`, `rxSum` and `frameLen` have no effect that outlives a frame attempt:
between attempts, whatever they hold, every later run has the same outputs, buffer, `rxq` and `txlog`. -/
def Obligations.ScratchRegistersNeverOutliveAnAttempt : Prop :=
  ∀ (n : Nat) (s t : State) (len sum rx : Nat), configOk s.cfg = true → s.cursor = 0 → runSteps n s = .next t →
    ∃ t', runSteps n { s with frameLen := len, sumAcc := sum, rxSum := rx } = .next t' ∧
      outputs t' = outputs t ∧ t'.buf = t.buf ∧ t'.cursor = t.cursor ∧ t'.rxq = t.rxq ∧ t'.txlog = t.txlog

/-- 10_state.md section 1 (R21, derived; D8): any cursor width that holds the accepted lengths gives identical behaviour. -/
def Obligations.CursorWidthIsUnobservable : Prop :=
  ∀ (s t : State) (width : Nat), s.Inv → configOk { s.cfg with cursorWidth := width } = true → step s = .next t →
    step { s with cfg := { s.cfg with cursorWidth := width } } =
      .next { t with cfg := { t.cfg with cursorWidth := width } }

/-! ### Host procedures -/

/-- 42_host_read.md section 2 (R171, derived): POLL is one STEP; it succeeds exactly when that STEP set `ok`, and only then
is the host's copy of the record replaced. -/
def Obligations.PollIsOneStep : Prop :=
  ∀ (copy : Reading) (s : State), ∃ t, exec .step s = .next t ∧ (poll copy s).state = t ∧
    ((poll copy s).success = true ↔ t.ok = .ok) ∧
    (poll copy s).copy = if t.ok = .ok then t.record else copy

/-- 42_host_read.md section 3 (R173, R176; D20): READ 0 performs exactly one STEP and ends; it succeeds exactly when that
STEP sets `ok`, so with no byte it fails even where an earlier STEP had set `ok`. -/
def Obligations.ReadZeroPerformsOneStep : Prop :=
  ∀ (s : State) (first : Turn) (more : List Turn), ∃ t, exec .step s = .next t ∧
    (readTimeout 0 first more s).steps = 1 ∧
    (t.ok = .ok → (readTimeout 0 first more s).result = .success t.record) ∧
    (t.ok = .waiting → (readTimeout 0 first more s).result = .timeout) ∧
    (s.rxq = [] → (readTimeout 0 first more s).result = .timeout)

/-- 42_host_read.md section 3 (R172; D20): how READ can end. It performs at least one STEP; success shows the record of a
STEP that set `ok`; failure comes only after a STEP that did not, with the elapsed time at least `t`. That READ performs at
most one STEP for each turn the environment is given, and is abandoned only where the turns run out, is the model's form
of R175, by which the host may abandon it after any STEP (DESIGN CHOICE, log 17). -/
def Obligations.ReadEndsAsTheLoopSays : Prop :=
  ∀ (limit : Nat) (s : State) (first : Turn) (more : List Turn),
    let r := readTimeout limit first more s
    1 ≤ r.steps ∧ r.steps ≤ more.length + 1 ∧
    (∀ rec', r.result = .success rec' → r.state.ok = .ok ∧ rec' = r.state.record) ∧
    (r.result = .timeout → r.state.ok = .waiting ∧ limit ≤ elapsedSince s.now r.state) ∧
    (r.result = .abandoned → r.state.ok = .waiting ∧ r.steps = more.length + 1)

/-- 42_host_read.md section 3 (R172, R174, R175; D20): READ touches the block only by its STEPs. The state it leaves is
exactly that of the turns it played, each a STEP, the time up to the reading, the bytes that arrive in the yield and the
yield's time, the last one cut off where READ ends; and no STEP before the last one set `ok`. The turns are the model's
form of the environment (DESIGN CHOICE, log 17). -/
def Obligations.ReadIsRepeatedStep : Prop :=
  ∀ (limit : Nat) (s : State) (first : Turn) (more : List Turn),
    let r := readTimeout limit first more s
    (∃ last, (first :: more)[r.steps - 1]? = some last ∧
      runInputs (((first :: more).take (r.steps - 1)).flatMap Turn.inputs ++ last.lastInputs r.result) s =
        .next r.state) ∧
    ∀ j, 1 ≤ j → j < r.steps →
      ∃ t, runInputs (((first :: more).take j).flatMap Turn.inputs) s = .next t ∧ t.ok = .waiting

/-- 42_host_read.md section 3 (R177, derived; D20): READ t ends by itself once the clock has advanced by at least `t`, short of
a whole turn of the counter (D21), at one of its readings. -/
def Obligations.ReadEndsOnceTheClockHasAdvanced : Prop :=
  ∀ (limit : Nat) (s : State) (first : Turn) (more : List Turn) (before after : List Turn) (u : Turn),
    first :: more = before ++ u :: after →
    limit ≤ (before.map (fun v => v.elapse + v.yieldMs)).sum + u.elapse →
    (before.map (fun v => v.elapse + v.yieldMs)).sum + u.elapse < 2 ^ s.cfg.clockWidth →
    (readTimeout limit first more s).result ≠ .abandoned ∧
    (readTimeout limit first more s).steps ≤ before.length + 1
end

