-- ==== Sys2Proof/Laws/Arith.lean ====
section
/-! SUPPORT. The operators of spec/00_scope.md R8 on registers of any width: joining two bytes, and adding one. -/

namespace Sys2Proof.Machine

theorem zext_lt (b : Byte) : zext b < 256 := b.isLt

/-- R8, R50: joining two bytes by shift and or is the big-endian pair. -/
theorem shl8_or_zext (hi lo : Byte) : shl8 hi ||| zext lo = zext hi * 256 + zext lo := by
  have h := Nat.two_pow_add_eq_or_of_lt (i := 8) (zext_lt lo) (zext hi)
  rw [shl8, Nat.mul_comm]
  exact h.symm

/-- The two writes of a pair to a register of any width leave the pair, cut to that width. -/
theorem write_pair (w : Nat) (hi lo : Byte) : (shl8 hi % 2 ^ w ||| zext lo) % 2 ^ w = pairAt w hi lo := by
  rw [Nat.or_mod_two_pow, Nat.mod_mod, ← Nat.or_mod_two_pow, shl8_or_zext, pairAt]

/-- At 16 bits a pair is not cut. -/
theorem pairAt_sixteen (hi lo : Byte) : pairAt 16 hi lo = 256 * zext hi + zext lo := by
  have h1 := zext_lt hi
  have h2 := zext_lt lo
  rw [pairAt, Nat.mod_eq_of_lt (by omega)]
  omega

/-- R113: adding a byte raises the sum by at most 255, and wraps. -/
theorem addAt_le (w a : Nat) (b : Byte) : addAt w a b ≤ a + 255 := by
  have := zext_lt b
  have := Nat.mod_le (a + zext b) (2 ^ w)
  unfold addAt; omega

/-- What an addition leaves fits the register. -/
@[simp] theorem addAt_lt (w a : Nat) (b : Byte) : addAt w a b < 2 ^ w := Nat.mod_lt _ (Nat.two_pow_pos w)

theorem byteSum_append (w : Nat) (xs : List Byte) (b : Byte) : byteSum w (xs ++ [b]) = addAt w (byteSum w xs) b := by
  simp [byteSum]

end Sys2Proof.Machine
end

