-- ==== Sys2Proof/Laws/Config.lean ====
section
/-! SUPPORT. What a configuration that is not refused guarantees (spec/40_decoder.md R119, 41_command.md R140 to R143),
cited by the lemmas about the operations instead of unfolding the check. -/

namespace Sys2Proof.Machine

theorem accepted_eq_true {c : Config} {len : Nat} :
    accepted c len = true ↔ len = c.lenLong ∨ (c.acceptShort = true ∧ len = c.lenShort) := by
  simp [accepted]

/-- One check of a chain: none is reported where this check passes and the rest reports none. -/
theorem check_none {p : Prop} [Decidable p] {e : ConfigError} {x : Option ConfigError} :
    (if p then some e else x) = none ↔ ¬ p ∧ x = none := by
  by_cases h : p <;> simp [h]

/-- The two length checks, as one property of every accepted length (R119). -/
theorem accepted_forall {c : Config} {P : Nat → Prop} :
    (∀ len, accepted c len = true → P len) ↔ P c.lenLong ∧ (c.acceptShort = true → P c.lenShort) := by
  constructor
  · exact fun h => ⟨h _ (accepted_eq_true.2 (.inl rfl)), fun hs => h _ (accepted_eq_true.2 (.inr ⟨hs, rfl⟩))⟩
  · rintro ⟨h1, h2⟩ len ha
    rcases accepted_eq_true.1 ha with rfl | ⟨hs, rfl⟩
    · exact h1
    · exact h2 hs

/-- The check, clause by clause. -/
theorem configOk_iff {c : Config} : configOk c = true ↔
    c.payloadCap = 2 * c.nFields ∧
    (∀ len, accepted c len = true → 2 ≤ len ∧ len + 3 < 2 ^ c.cursorWidth) ∧
    16 ≤ c.cmdFrameLen ∧ c.cmdTemplate.length = c.cmdFrameLen ∧ lutError c = none := by
  simp only [configOk, beq_iff_eq, configError, check_none, accepted_forall]
  have h1 : (¬ (!lengthOk c.lenLong || (c.acceptShort && !lengthOk c.lenShort)) = true) ↔
      2 ≤ c.lenLong ∧ (c.acceptShort = true → 2 ≤ c.lenShort) := by
    simp [lengthOk, Nat.succ_le_iff]
  have h2 : (¬ (!lengthFits c.cursorWidth c.lenLong ||
        (c.acceptShort && !lengthFits c.cursorWidth c.lenShort)) = true) ↔
      c.lenLong + 3 < 2 ^ c.cursorWidth ∧ (c.acceptShort = true → c.lenShort + 3 < 2 ^ c.cursorWidth) := by
    simp [lengthFits]
  rw [h1, h2]
  constructor
  · rintro ⟨hc, ⟨a1, a2⟩, ⟨b1, b2⟩, hl, ht⟩
    obtain ⟨hl, hn⟩ := not_or.1 hl
    exact ⟨by omega, ⟨⟨a1, b1⟩, fun hs => ⟨a2 hs, b2 hs⟩⟩, by omega, by omega, ht⟩
  · rintro ⟨hc, ⟨⟨a1, b1⟩, hs⟩, hl, hn, ht⟩
    exact ⟨by omega, ⟨a1, fun h => (hs h).1⟩, ⟨b1, fun h => (hs h).2⟩, not_or.2 ⟨by omega, by omega⟩, ht⟩

theorem configOk_payloadCap {c : Config} (h : configOk c = true) : c.payloadCap = 2 * c.nFields := (configOk_iff.1 h).1

/-- R119: the two length constraints, for every accepted length. -/
theorem configOk_accepted {c : Config} (h : configOk c = true) {len : Nat} (ha : accepted c len = true) :
    2 ≤ len ∧ len + 3 < 2 ^ c.cursorWidth := (configOk_iff.1 h).2.1 len ha

theorem configOk_template {c : Config} (h : configOk c = true) :
    16 ≤ c.cmdFrameLen ∧ c.cmdTemplate.length = c.cmdFrameLen :=
  ⟨(configOk_iff.1 h).2.2.1, (configOk_iff.1 h).2.2.2.1⟩

theorem configOk_lut {c : Config} (h : configOk c = true) : lutError c = none := (configOk_iff.1 h).2.2.2.2

theorem accepted_lenLong (c : Config) : accepted c c.lenLong = true := by simp [accepted]

/-- The cursor can hold every header position. -/
theorem configOk_header {c : Config} (h : configOk c = true) : 5 < 2 ^ c.cursorWidth := by
  have := configOk_accepted h (accepted_lenLong c)
  omega

theorem rowError_none {template row : Frame} {s : Nat} :
    rowError template row s = none ↔ fixedBytesOk template row = true ∧ rowChecksumOk row = true := by
  unfold rowError
  cases fixedBytesOk template row <;> cases rowChecksumOk row <;> simp

/-- R141, R143: no row is wrong. -/
theorem rowsError_none {template : Frame} (rows : List Frame) (s : Nat) :
    rowsError template s rows = none ↔
      ∀ row ∈ rows, fixedBytesOk template row = true ∧ rowChecksumOk row = true := by
  induction rows generalizing s with
  | nil => simp [rowsError]
  | cons row rest ih =>
    unfold rowsError
    cases h : rowError template row s with
    | some e =>
      have : ¬ (fixedBytesOk template row = true ∧ rowChecksumOk row = true) := fun h' => by
        rw [rowError_none.2 h'] at h; cases h
      simp only [List.forall_mem_cons]
      exact ⟨fun h' => (by cases h'), fun h' => absurd h'.1 this⟩
    | none => simpa [rowError_none.1 h] using ih (s + 1)

end Sys2Proof.Machine
end

