-- ==== Sys2Proof/Laws/State.lean ====
section
/-! SUPPORT. One lemma per field of State per named update (true by unfolding the update once), so that no later proof
unfolds one: the field written has its new value, every other field keeps its own. -/

namespace Sys2Proof.Machine

@[simp] theorem writeCursor_cfg (v : Nat) (s : State) : (writeCursor v s).cfg = s.cfg := rfl
@[simp] theorem writeCursor_cursor (v : Nat) (s : State) : (writeCursor v s).cursor = v % 2 ^ s.cfg.cursorWidth := rfl
@[simp] theorem writeCursor_frameLen (v : Nat) (s : State) : (writeCursor v s).frameLen = s.frameLen := rfl
@[simp] theorem writeCursor_sumAcc (v : Nat) (s : State) : (writeCursor v s).sumAcc = s.sumAcc := rfl
@[simp] theorem writeCursor_rxSum (v : Nat) (s : State) : (writeCursor v s).rxSum = s.rxSum := rfl
@[simp] theorem writeCursor_buf (v : Nat) (s : State) : (writeCursor v s).buf = s.buf := rfl
@[simp] theorem writeCursor_ok (v : Nat) (s : State) : (writeCursor v s).ok = s.ok := rfl
@[simp] theorem writeCursor_record (v : Nat) (s : State) : (writeCursor v s).record = s.record := rfl
@[simp] theorem writeCursor_mode (v : Nat) (s : State) : (writeCursor v s).mode = s.mode := rfl
@[simp] theorem writeCursor_rxq (v : Nat) (s : State) : (writeCursor v s).rxq = s.rxq := rfl
@[simp] theorem writeCursor_txlog (v : Nat) (s : State) : (writeCursor v s).txlog = s.txlog := rfl
@[simp] theorem writeCursor_now (v : Nat) (s : State) : (writeCursor v s).now = s.now := rfl
@[simp] theorem writeCursor_inbox (v : Nat) (s : State) : (writeCursor v s).inbox = s.inbox := rfl
@[simp] theorem writeCursor_refusalMark (v : Nat) (s : State) : (writeCursor v s).refusalMark = s.refusalMark := rfl

@[simp] theorem advanceCursor_cfg (s : State) : (advanceCursor s).cfg = s.cfg := rfl
@[simp] theorem advanceCursor_cursor (s : State) :
    (advanceCursor s).cursor = (s.cursor + 1) % 2 ^ s.cfg.cursorWidth := rfl
@[simp] theorem advanceCursor_frameLen (s : State) : (advanceCursor s).frameLen = s.frameLen := rfl
@[simp] theorem advanceCursor_sumAcc (s : State) : (advanceCursor s).sumAcc = s.sumAcc := rfl
@[simp] theorem advanceCursor_rxSum (s : State) : (advanceCursor s).rxSum = s.rxSum := rfl
@[simp] theorem advanceCursor_buf (s : State) : (advanceCursor s).buf = s.buf := rfl
@[simp] theorem advanceCursor_ok (s : State) : (advanceCursor s).ok = s.ok := rfl
@[simp] theorem advanceCursor_record (s : State) : (advanceCursor s).record = s.record := rfl
@[simp] theorem advanceCursor_mode (s : State) : (advanceCursor s).mode = s.mode := rfl
@[simp] theorem advanceCursor_rxq (s : State) : (advanceCursor s).rxq = s.rxq := rfl
@[simp] theorem advanceCursor_txlog (s : State) : (advanceCursor s).txlog = s.txlog := rfl
@[simp] theorem advanceCursor_now (s : State) : (advanceCursor s).now = s.now := rfl
@[simp] theorem advanceCursor_inbox (s : State) : (advanceCursor s).inbox = s.inbox := rfl
@[simp] theorem advanceCursor_refusalMark (s : State) : (advanceCursor s).refusalMark = s.refusalMark := rfl

@[simp] theorem resync_cfg (s : State) : (resync s).cfg = s.cfg := rfl
@[simp] theorem resync_cursor (s : State) : (resync s).cursor = 0 := Nat.zero_mod _
@[simp] theorem resync_frameLen (s : State) : (resync s).frameLen = s.frameLen := rfl
@[simp] theorem resync_sumAcc (s : State) : (resync s).sumAcc = s.sumAcc := rfl
@[simp] theorem resync_rxSum (s : State) : (resync s).rxSum = s.rxSum := rfl
@[simp] theorem resync_buf (s : State) : (resync s).buf = s.buf := rfl
@[simp] theorem resync_ok (s : State) : (resync s).ok = s.ok := rfl
@[simp] theorem resync_record (s : State) : (resync s).record = s.record := rfl
@[simp] theorem resync_mode (s : State) : (resync s).mode = s.mode := rfl
@[simp] theorem resync_rxq (s : State) : (resync s).rxq = s.rxq := rfl
@[simp] theorem resync_txlog (s : State) : (resync s).txlog = s.txlog := rfl
@[simp] theorem resync_now (s : State) : (resync s).now = s.now := rfl
@[simp] theorem resync_inbox (s : State) : (resync s).inbox = s.inbox := rfl
@[simp] theorem resync_refusalMark (s : State) : (resync s).refusalMark = s.refusalMark := rfl

@[simp] theorem writeFrameLen_cfg (v : Nat) (s : State) : (writeFrameLen v s).cfg = s.cfg := rfl
@[simp] theorem writeFrameLen_cursor (v : Nat) (s : State) : (writeFrameLen v s).cursor = s.cursor := rfl
@[simp] theorem writeFrameLen_frameLen (v : Nat) (s : State) :
    (writeFrameLen v s).frameLen = v % 2 ^ s.cfg.frameLenWidth := rfl
@[simp] theorem writeFrameLen_sumAcc (v : Nat) (s : State) : (writeFrameLen v s).sumAcc = s.sumAcc := rfl
@[simp] theorem writeFrameLen_rxSum (v : Nat) (s : State) : (writeFrameLen v s).rxSum = s.rxSum := rfl
@[simp] theorem writeFrameLen_buf (v : Nat) (s : State) : (writeFrameLen v s).buf = s.buf := rfl
@[simp] theorem writeFrameLen_ok (v : Nat) (s : State) : (writeFrameLen v s).ok = s.ok := rfl
@[simp] theorem writeFrameLen_record (v : Nat) (s : State) : (writeFrameLen v s).record = s.record := rfl
@[simp] theorem writeFrameLen_mode (v : Nat) (s : State) : (writeFrameLen v s).mode = s.mode := rfl
@[simp] theorem writeFrameLen_rxq (v : Nat) (s : State) : (writeFrameLen v s).rxq = s.rxq := rfl
@[simp] theorem writeFrameLen_txlog (v : Nat) (s : State) : (writeFrameLen v s).txlog = s.txlog := rfl
@[simp] theorem writeFrameLen_now (v : Nat) (s : State) : (writeFrameLen v s).now = s.now := rfl
@[simp] theorem writeFrameLen_inbox (v : Nat) (s : State) : (writeFrameLen v s).inbox = s.inbox := rfl
@[simp] theorem writeFrameLen_refusalMark (v : Nat) (s : State) : (writeFrameLen v s).refusalMark = s.refusalMark := rfl

@[simp] theorem writeSum_cfg (v : Nat) (s : State) : (writeSum v s).cfg = s.cfg := rfl
@[simp] theorem writeSum_cursor (v : Nat) (s : State) : (writeSum v s).cursor = s.cursor := rfl
@[simp] theorem writeSum_frameLen (v : Nat) (s : State) : (writeSum v s).frameLen = s.frameLen := rfl
@[simp] theorem writeSum_sumAcc (v : Nat) (s : State) : (writeSum v s).sumAcc = v % 2 ^ s.cfg.checksumWidth := rfl
@[simp] theorem writeSum_rxSum (v : Nat) (s : State) : (writeSum v s).rxSum = s.rxSum := rfl
@[simp] theorem writeSum_buf (v : Nat) (s : State) : (writeSum v s).buf = s.buf := rfl
@[simp] theorem writeSum_ok (v : Nat) (s : State) : (writeSum v s).ok = s.ok := rfl
@[simp] theorem writeSum_record (v : Nat) (s : State) : (writeSum v s).record = s.record := rfl
@[simp] theorem writeSum_mode (v : Nat) (s : State) : (writeSum v s).mode = s.mode := rfl
@[simp] theorem writeSum_rxq (v : Nat) (s : State) : (writeSum v s).rxq = s.rxq := rfl
@[simp] theorem writeSum_txlog (v : Nat) (s : State) : (writeSum v s).txlog = s.txlog := rfl
@[simp] theorem writeSum_now (v : Nat) (s : State) : (writeSum v s).now = s.now := rfl
@[simp] theorem writeSum_inbox (v : Nat) (s : State) : (writeSum v s).inbox = s.inbox := rfl
@[simp] theorem writeSum_refusalMark (v : Nat) (s : State) : (writeSum v s).refusalMark = s.refusalMark := rfl

@[simp] theorem addToSum_cfg (b : Byte) (s : State) : (addToSum b s).cfg = s.cfg := rfl
@[simp] theorem addToSum_cursor (b : Byte) (s : State) : (addToSum b s).cursor = s.cursor := rfl
@[simp] theorem addToSum_frameLen (b : Byte) (s : State) : (addToSum b s).frameLen = s.frameLen := rfl
@[simp] theorem addToSum_sumAcc (b : Byte) (s : State) :
    (addToSum b s).sumAcc = addAt s.cfg.checksumWidth s.sumAcc b := rfl
@[simp] theorem addToSum_rxSum (b : Byte) (s : State) : (addToSum b s).rxSum = s.rxSum := rfl
@[simp] theorem addToSum_buf (b : Byte) (s : State) : (addToSum b s).buf = s.buf := rfl
@[simp] theorem addToSum_ok (b : Byte) (s : State) : (addToSum b s).ok = s.ok := rfl
@[simp] theorem addToSum_record (b : Byte) (s : State) : (addToSum b s).record = s.record := rfl
@[simp] theorem addToSum_mode (b : Byte) (s : State) : (addToSum b s).mode = s.mode := rfl
@[simp] theorem addToSum_rxq (b : Byte) (s : State) : (addToSum b s).rxq = s.rxq := rfl
@[simp] theorem addToSum_txlog (b : Byte) (s : State) : (addToSum b s).txlog = s.txlog := rfl
@[simp] theorem addToSum_now (b : Byte) (s : State) : (addToSum b s).now = s.now := rfl
@[simp] theorem addToSum_inbox (b : Byte) (s : State) : (addToSum b s).inbox = s.inbox := rfl
@[simp] theorem addToSum_refusalMark (b : Byte) (s : State) : (addToSum b s).refusalMark = s.refusalMark := rfl

@[simp] theorem writeRxSum_cfg (v : Nat) (s : State) : (writeRxSum v s).cfg = s.cfg := rfl
@[simp] theorem writeRxSum_cursor (v : Nat) (s : State) : (writeRxSum v s).cursor = s.cursor := rfl
@[simp] theorem writeRxSum_frameLen (v : Nat) (s : State) : (writeRxSum v s).frameLen = s.frameLen := rfl
@[simp] theorem writeRxSum_sumAcc (v : Nat) (s : State) : (writeRxSum v s).sumAcc = s.sumAcc := rfl
@[simp] theorem writeRxSum_rxSum (v : Nat) (s : State) : (writeRxSum v s).rxSum = v % 2 ^ s.cfg.checksumWidth := rfl
@[simp] theorem writeRxSum_buf (v : Nat) (s : State) : (writeRxSum v s).buf = s.buf := rfl
@[simp] theorem writeRxSum_ok (v : Nat) (s : State) : (writeRxSum v s).ok = s.ok := rfl
@[simp] theorem writeRxSum_record (v : Nat) (s : State) : (writeRxSum v s).record = s.record := rfl
@[simp] theorem writeRxSum_mode (v : Nat) (s : State) : (writeRxSum v s).mode = s.mode := rfl
@[simp] theorem writeRxSum_rxq (v : Nat) (s : State) : (writeRxSum v s).rxq = s.rxq := rfl
@[simp] theorem writeRxSum_txlog (v : Nat) (s : State) : (writeRxSum v s).txlog = s.txlog := rfl
@[simp] theorem writeRxSum_now (v : Nat) (s : State) : (writeRxSum v s).now = s.now := rfl
@[simp] theorem writeRxSum_inbox (v : Nat) (s : State) : (writeRxSum v s).inbox = s.inbox := rfl
@[simp] theorem writeRxSum_refusalMark (v : Nat) (s : State) : (writeRxSum v s).refusalMark = s.refusalMark := rfl

@[simp] theorem storePayload_cfg (i : Nat) (b : Byte) (s : State) : (storePayload i b s).cfg = s.cfg := by
  unfold storePayload; split <;> rfl
@[simp] theorem storePayload_cursor (i : Nat) (b : Byte) (s : State) : (storePayload i b s).cursor = s.cursor := by
  unfold storePayload; split <;> rfl
@[simp] theorem storePayload_frameLen (i : Nat) (b : Byte) (s : State) :
    (storePayload i b s).frameLen = s.frameLen := by
  unfold storePayload; split <;> rfl
@[simp] theorem storePayload_sumAcc (i : Nat) (b : Byte) (s : State) : (storePayload i b s).sumAcc = s.sumAcc := by
  unfold storePayload; split <;> rfl
@[simp] theorem storePayload_rxSum (i : Nat) (b : Byte) (s : State) : (storePayload i b s).rxSum = s.rxSum := by
  unfold storePayload; split <;> rfl
@[simp] theorem storePayload_buf (i : Nat) (b : Byte) (s : State) :
    (storePayload i b s).buf = if i < s.cfg.payloadCap then s.buf.set i b else s.buf := by
  unfold storePayload; split <;> rfl
@[simp] theorem storePayload_ok (i : Nat) (b : Byte) (s : State) : (storePayload i b s).ok = s.ok := by
  unfold storePayload; split <;> rfl
@[simp] theorem storePayload_record (i : Nat) (b : Byte) (s : State) : (storePayload i b s).record = s.record := by
  unfold storePayload; split <;> rfl
@[simp] theorem storePayload_mode (i : Nat) (b : Byte) (s : State) : (storePayload i b s).mode = s.mode := by
  unfold storePayload; split <;> rfl
@[simp] theorem storePayload_rxq (i : Nat) (b : Byte) (s : State) : (storePayload i b s).rxq = s.rxq := by
  unfold storePayload; split <;> rfl
@[simp] theorem storePayload_txlog (i : Nat) (b : Byte) (s : State) : (storePayload i b s).txlog = s.txlog := by
  unfold storePayload; split <;> rfl
@[simp] theorem storePayload_now (i : Nat) (b : Byte) (s : State) : (storePayload i b s).now = s.now := by
  unfold storePayload; split <;> rfl
@[simp] theorem storePayload_inbox (i : Nat) (b : Byte) (s : State) : (storePayload i b s).inbox = s.inbox := by
  unfold storePayload; split <;> rfl
@[simp] theorem storePayload_refusalMark (i : Nat) (b : Byte) (s : State) :
    (storePayload i b s).refusalMark = s.refusalMark := by
  unfold storePayload; split <;> rfl

@[simp] theorem commitRecord_cfg (s : State) : (commitRecord s).cfg = s.cfg := rfl
@[simp] theorem commitRecord_cursor (s : State) : (commitRecord s).cursor = s.cursor := rfl
@[simp] theorem commitRecord_frameLen (s : State) : (commitRecord s).frameLen = s.frameLen := rfl
@[simp] theorem commitRecord_sumAcc (s : State) : (commitRecord s).sumAcc = s.sumAcc := rfl
@[simp] theorem commitRecord_rxSum (s : State) : (commitRecord s).rxSum = s.rxSum := rfl
@[simp] theorem commitRecord_buf (s : State) : (commitRecord s).buf = s.buf := rfl
@[simp] theorem commitRecord_ok (s : State) : (commitRecord s).ok = s.ok := rfl
@[simp] theorem commitRecord_record (s : State) : (commitRecord s).record = fieldsOfBuffer s.buf := rfl
@[simp] theorem commitRecord_mode (s : State) : (commitRecord s).mode = s.mode := rfl
@[simp] theorem commitRecord_rxq (s : State) : (commitRecord s).rxq = s.rxq := rfl
@[simp] theorem commitRecord_txlog (s : State) : (commitRecord s).txlog = s.txlog := rfl
@[simp] theorem commitRecord_now (s : State) : (commitRecord s).now = s.now := rfl
@[simp] theorem commitRecord_inbox (s : State) : (commitRecord s).inbox = s.inbox := rfl
@[simp] theorem commitRecord_refusalMark (s : State) : (commitRecord s).refusalMark = s.refusalMark := rfl

@[simp] theorem clearOk_cfg (s : State) : (clearOk s).cfg = s.cfg := rfl
@[simp] theorem clearOk_cursor (s : State) : (clearOk s).cursor = s.cursor := rfl
@[simp] theorem clearOk_frameLen (s : State) : (clearOk s).frameLen = s.frameLen := rfl
@[simp] theorem clearOk_sumAcc (s : State) : (clearOk s).sumAcc = s.sumAcc := rfl
@[simp] theorem clearOk_rxSum (s : State) : (clearOk s).rxSum = s.rxSum := rfl
@[simp] theorem clearOk_buf (s : State) : (clearOk s).buf = s.buf := rfl
@[simp] theorem clearOk_ok (s : State) : (clearOk s).ok = .waiting := rfl
@[simp] theorem clearOk_record (s : State) : (clearOk s).record = s.record := rfl
@[simp] theorem clearOk_mode (s : State) : (clearOk s).mode = s.mode := rfl
@[simp] theorem clearOk_rxq (s : State) : (clearOk s).rxq = s.rxq := rfl
@[simp] theorem clearOk_txlog (s : State) : (clearOk s).txlog = s.txlog := rfl
@[simp] theorem clearOk_now (s : State) : (clearOk s).now = s.now := rfl
@[simp] theorem clearOk_inbox (s : State) : (clearOk s).inbox = s.inbox := rfl
@[simp] theorem clearOk_refusalMark (s : State) : (clearOk s).refusalMark = s.refusalMark := rfl

@[simp] theorem setOk_cfg (s : State) : (setOk s).cfg = s.cfg := rfl
@[simp] theorem setOk_cursor (s : State) : (setOk s).cursor = s.cursor := rfl
@[simp] theorem setOk_frameLen (s : State) : (setOk s).frameLen = s.frameLen := rfl
@[simp] theorem setOk_sumAcc (s : State) : (setOk s).sumAcc = s.sumAcc := rfl
@[simp] theorem setOk_rxSum (s : State) : (setOk s).rxSum = s.rxSum := rfl
@[simp] theorem setOk_buf (s : State) : (setOk s).buf = s.buf := rfl
@[simp] theorem setOk_ok (s : State) : (setOk s).ok = .ok := rfl
@[simp] theorem setOk_record (s : State) : (setOk s).record = s.record := rfl
@[simp] theorem setOk_mode (s : State) : (setOk s).mode = s.mode := rfl
@[simp] theorem setOk_rxq (s : State) : (setOk s).rxq = s.rxq := rfl
@[simp] theorem setOk_txlog (s : State) : (setOk s).txlog = s.txlog := rfl
@[simp] theorem setOk_now (s : State) : (setOk s).now = s.now := rfl
@[simp] theorem setOk_inbox (s : State) : (setOk s).inbox = s.inbox := rfl
@[simp] theorem setOk_refusalMark (s : State) : (setOk s).refusalMark = s.refusalMark := rfl

@[simp] theorem writeMode_cfg (m : Mode) (s : State) : (writeMode m s).cfg = s.cfg := rfl
@[simp] theorem writeMode_cursor (m : Mode) (s : State) : (writeMode m s).cursor = s.cursor := rfl
@[simp] theorem writeMode_frameLen (m : Mode) (s : State) : (writeMode m s).frameLen = s.frameLen := rfl
@[simp] theorem writeMode_sumAcc (m : Mode) (s : State) : (writeMode m s).sumAcc = s.sumAcc := rfl
@[simp] theorem writeMode_rxSum (m : Mode) (s : State) : (writeMode m s).rxSum = s.rxSum := rfl
@[simp] theorem writeMode_buf (m : Mode) (s : State) : (writeMode m s).buf = s.buf := rfl
@[simp] theorem writeMode_ok (m : Mode) (s : State) : (writeMode m s).ok = s.ok := rfl
@[simp] theorem writeMode_record (m : Mode) (s : State) : (writeMode m s).record = s.record := rfl
@[simp] theorem writeMode_mode (m : Mode) (s : State) : (writeMode m s).mode = m := rfl
@[simp] theorem writeMode_rxq (m : Mode) (s : State) : (writeMode m s).rxq = s.rxq := rfl
@[simp] theorem writeMode_txlog (m : Mode) (s : State) : (writeMode m s).txlog = s.txlog := rfl
@[simp] theorem writeMode_now (m : Mode) (s : State) : (writeMode m s).now = s.now := rfl
@[simp] theorem writeMode_inbox (m : Mode) (s : State) : (writeMode m s).inbox = s.inbox := rfl
@[simp] theorem writeMode_refusalMark (m : Mode) (s : State) : (writeMode m s).refusalMark = s.refusalMark := rfl

@[simp] theorem txWrite_cfg (f : Frame) (s : State) : (txWrite f s).cfg = s.cfg := rfl
@[simp] theorem txWrite_cursor (f : Frame) (s : State) : (txWrite f s).cursor = s.cursor := rfl
@[simp] theorem txWrite_frameLen (f : Frame) (s : State) : (txWrite f s).frameLen = s.frameLen := rfl
@[simp] theorem txWrite_sumAcc (f : Frame) (s : State) : (txWrite f s).sumAcc = s.sumAcc := rfl
@[simp] theorem txWrite_rxSum (f : Frame) (s : State) : (txWrite f s).rxSum = s.rxSum := rfl
@[simp] theorem txWrite_buf (f : Frame) (s : State) : (txWrite f s).buf = s.buf := rfl
@[simp] theorem txWrite_ok (f : Frame) (s : State) : (txWrite f s).ok = s.ok := rfl
@[simp] theorem txWrite_record (f : Frame) (s : State) : (txWrite f s).record = s.record := rfl
@[simp] theorem txWrite_mode (f : Frame) (s : State) : (txWrite f s).mode = s.mode := rfl
@[simp] theorem txWrite_rxq (f : Frame) (s : State) : (txWrite f s).rxq = s.rxq := rfl
@[simp] theorem txWrite_txlog (f : Frame) (s : State) : (txWrite f s).txlog = s.txlog ++ [f] := rfl
@[simp] theorem txWrite_now (f : Frame) (s : State) : (txWrite f s).now = s.now := rfl
@[simp] theorem txWrite_inbox (f : Frame) (s : State) : (txWrite f s).inbox = s.inbox := rfl
@[simp] theorem txWrite_refusalMark (f : Frame) (s : State) : (txWrite f s).refusalMark = s.refusalMark := rfl

@[simp] theorem sendRow_cfg (r : Fin 5) (s : State) : (sendRow r s).cfg = s.cfg := rfl
@[simp] theorem sendRow_cursor (r : Fin 5) (s : State) : (sendRow r s).cursor = s.cursor := rfl
@[simp] theorem sendRow_frameLen (r : Fin 5) (s : State) : (sendRow r s).frameLen = s.frameLen := rfl
@[simp] theorem sendRow_sumAcc (r : Fin 5) (s : State) : (sendRow r s).sumAcc = s.sumAcc := rfl
@[simp] theorem sendRow_rxSum (r : Fin 5) (s : State) : (sendRow r s).rxSum = s.rxSum := rfl
@[simp] theorem sendRow_buf (r : Fin 5) (s : State) : (sendRow r s).buf = s.buf := rfl
@[simp] theorem sendRow_ok (r : Fin 5) (s : State) : (sendRow r s).ok = s.ok := rfl
@[simp] theorem sendRow_record (r : Fin 5) (s : State) : (sendRow r s).record = s.record := rfl
@[simp] theorem sendRow_mode (r : Fin 5) (s : State) : (sendRow r s).mode = s.mode := rfl
@[simp] theorem sendRow_rxq (r : Fin 5) (s : State) : (sendRow r s).rxq = s.rxq := rfl
@[simp] theorem sendRow_txlog (r : Fin 5) (s : State) : (sendRow r s).txlog = s.txlog ++ [lutRead s.cfg r] := rfl
@[simp] theorem sendRow_now (r : Fin 5) (s : State) : (sendRow r s).now = s.now := rfl
@[simp] theorem sendRow_inbox (r : Fin 5) (s : State) : (sendRow r s).inbox = s.inbox := rfl
@[simp] theorem sendRow_refusalMark (r : Fin 5) (s : State) : (sendRow r s).refusalMark = s.refusalMark := rfl

@[simp] theorem receive_cfg (bs : List Byte) (s : State) : (receive bs s).cfg = s.cfg := rfl
@[simp] theorem receive_cursor (bs : List Byte) (s : State) : (receive bs s).cursor = s.cursor := rfl
@[simp] theorem receive_frameLen (bs : List Byte) (s : State) : (receive bs s).frameLen = s.frameLen := rfl
@[simp] theorem receive_sumAcc (bs : List Byte) (s : State) : (receive bs s).sumAcc = s.sumAcc := rfl
@[simp] theorem receive_rxSum (bs : List Byte) (s : State) : (receive bs s).rxSum = s.rxSum := rfl
@[simp] theorem receive_buf (bs : List Byte) (s : State) : (receive bs s).buf = s.buf := rfl
@[simp] theorem receive_ok (bs : List Byte) (s : State) : (receive bs s).ok = s.ok := rfl
@[simp] theorem receive_record (bs : List Byte) (s : State) : (receive bs s).record = s.record := rfl
@[simp] theorem receive_mode (bs : List Byte) (s : State) : (receive bs s).mode = s.mode := rfl
@[simp] theorem receive_rxq (bs : List Byte) (s : State) : (receive bs s).rxq = s.rxq ++ bs := rfl
@[simp] theorem receive_txlog (bs : List Byte) (s : State) : (receive bs s).txlog = s.txlog := rfl
@[simp] theorem receive_now (bs : List Byte) (s : State) : (receive bs s).now = s.now := rfl
@[simp] theorem receive_inbox (bs : List Byte) (s : State) : (receive bs s).inbox = s.inbox := rfl
@[simp] theorem receive_refusalMark (bs : List Byte) (s : State) : (receive bs s).refusalMark = s.refusalMark := rfl

@[simp] theorem advanceClock_cfg (ms : Nat) (s : State) : (advanceClock ms s).cfg = s.cfg := rfl
@[simp] theorem advanceClock_cursor (ms : Nat) (s : State) : (advanceClock ms s).cursor = s.cursor := rfl
@[simp] theorem advanceClock_frameLen (ms : Nat) (s : State) : (advanceClock ms s).frameLen = s.frameLen := rfl
@[simp] theorem advanceClock_sumAcc (ms : Nat) (s : State) : (advanceClock ms s).sumAcc = s.sumAcc := rfl
@[simp] theorem advanceClock_rxSum (ms : Nat) (s : State) : (advanceClock ms s).rxSum = s.rxSum := rfl
@[simp] theorem advanceClock_buf (ms : Nat) (s : State) : (advanceClock ms s).buf = s.buf := rfl
@[simp] theorem advanceClock_ok (ms : Nat) (s : State) : (advanceClock ms s).ok = s.ok := rfl
@[simp] theorem advanceClock_record (ms : Nat) (s : State) : (advanceClock ms s).record = s.record := rfl
@[simp] theorem advanceClock_mode (ms : Nat) (s : State) : (advanceClock ms s).mode = s.mode := rfl
@[simp] theorem advanceClock_rxq (ms : Nat) (s : State) : (advanceClock ms s).rxq = s.rxq := rfl
@[simp] theorem advanceClock_txlog (ms : Nat) (s : State) : (advanceClock ms s).txlog = s.txlog := rfl
@[simp] theorem advanceClock_now (ms : Nat) (s : State) :
    (advanceClock ms s).now = (s.now + ms) % 2 ^ s.cfg.clockWidth := rfl
@[simp] theorem advanceClock_inbox (ms : Nat) (s : State) : (advanceClock ms s).inbox = s.inbox := rfl
@[simp] theorem advanceClock_refusalMark (ms : Nat) (s : State) : (advanceClock ms s).refusalMark = s.refusalMark := rfl

@[simp] theorem resetBlock_cfg (s : State) : (resetBlock s).cfg = s.cfg := rfl
@[simp] theorem resetBlock_cursor (s : State) : (resetBlock s).cursor = 0 := rfl
@[simp] theorem resetBlock_frameLen (s : State) : (resetBlock s).frameLen = 0 := rfl
@[simp] theorem resetBlock_sumAcc (s : State) : (resetBlock s).sumAcc = 0 := rfl
@[simp] theorem resetBlock_rxSum (s : State) : (resetBlock s).rxSum = 0 := rfl
@[simp] theorem resetBlock_buf (s : State) : (resetBlock s).buf = List.replicate s.cfg.payloadCap 0 := rfl
@[simp] theorem resetBlock_ok (s : State) : (resetBlock s).ok = .waiting := rfl
@[simp] theorem resetBlock_record (s : State) : (resetBlock s).record = List.replicate s.cfg.nFields 0 := rfl
@[simp] theorem resetBlock_mode (s : State) : (resetBlock s).mode = .active := rfl
@[simp] theorem resetBlock_rxq (s : State) : (resetBlock s).rxq = s.rxq := rfl
@[simp] theorem resetBlock_txlog (s : State) : (resetBlock s).txlog = s.txlog := rfl
@[simp] theorem resetBlock_now (s : State) : (resetBlock s).now = s.now := rfl
@[simp] theorem resetBlock_inbox (s : State) : (resetBlock s).inbox = s.inbox := rfl
@[simp] theorem resetBlock_refusalMark (s : State) : (resetBlock s).refusalMark = s.refusalMark := rfl

/-! The state after power-up (R203) and after reset is that of the reset event. -/

@[simp] theorem powerUp_cfg (c : Config) : (powerUp c).cfg = c := rfl
@[simp] theorem powerUp_refusalMark (c : Config) : (powerUp c).refusalMark = none := rfl

/-- R203: State.reset is the power-up of the default parameters. -/
theorem reset_eq_powerUp : State.reset = powerUp Config.default := rfl

end Sys2Proof.Machine
end

