-- ==== Sys2Proof/Laws/Decoder.lean ====
section
/-! SUPPORT. What one STEP can do (spec/40_decoder.md R100 to R112): the two shapes of a STEP, one equation per
transition, the frame, and the whole as one case analysis. Provers cite these instead of unfolding `decoderStep`. -/

namespace Sys2Proof.Machine

/-- R102: without a byte, only `ok` is cleared. -/
theorem decoderStep_nil {s : State} (h : s.rxq = []) : decoderStep s = { s with ok := .waiting } := by
  simp [decoderStep, rxRead, h, clearOk]

/-- With a byte, the byte is taken off `rxq` and the transition of the cursor runs with `ok` cleared. -/
theorem decoderStep_cons {s : State} {b : Byte} {rest : List Byte} (h : s.rxq = b :: rest) :
    decoderStep s = consumeByte b { s with ok := .waiting, rxq := rest } := by
  simp [decoderStep, rxRead, h, clearOk]

theorem consumeByte_zero {b : Byte} {s : State} (h : s.cursor = 0) : consumeByte b s = firstStartByte b s := by
  simp [consumeByte, h]

theorem consumeByte_one {b : Byte} {s : State} (h : s.cursor = 1) : consumeByte b s = secondStartByte b s := by
  simp [consumeByte, h]

theorem consumeByte_two {b : Byte} {s : State} (h : s.cursor = 2) : consumeByte b s = lengthHighByte b s := by
  simp [consumeByte, h]

theorem consumeByte_three {b : Byte} {s : State} (h : s.cursor = 3) : consumeByte b s = lengthLowByte b s := by
  simp [consumeByte, h]

theorem consumeByte_checksumHigh {b : Byte} {s : State} (h4 : 4 ≤ s.cursor) (h : s.cursor = s.frameLen + 2) :
    consumeByte b s = checksumHighByte b s := by
  unfold consumeByte
  rw [if_neg (by omega), if_neg (by omega), if_neg (by omega), if_neg (by omega), if_pos h]

theorem consumeByte_checksumLow {b : Byte} {s : State} (h4 : 4 ≤ s.cursor) (h : s.cursor = s.frameLen + 3) :
    consumeByte b s = checksumLowByte b s := by
  unfold consumeByte
  rw [if_neg (by omega), if_neg (by omega), if_neg (by omega), if_neg (by omega), if_neg (by omega), if_pos h]

theorem consumeByte_payload {b : Byte} {s : State} (h4 : 4 ≤ s.cursor) (h2 : s.cursor ≠ s.frameLen + 2)
    (h3 : s.cursor ≠ s.frameLen + 3) : consumeByte b s = payloadByte b s := by
  unfold consumeByte
  rw [if_neg (by omega), if_neg (by omega), if_neg (by omega), if_neg (by omega), if_neg h2, if_neg h3]

/-- Any property of all seven transitions is a property of consuming a byte. -/
theorem consumeByte_cases {P : State → Prop} (b : Byte) (s : State)
    (h0 : s.cursor = 0 → P (firstStartByte b s))
    (h1 : s.cursor = 1 → P (secondStartByte b s))
    (h2 : s.cursor = 2 → P (lengthHighByte b s))
    (h3 : s.cursor = 3 → P (lengthLowByte b s))
    (hh : 4 ≤ s.cursor → s.cursor = s.frameLen + 2 → P (checksumHighByte b s))
    (hl : 4 ≤ s.cursor → s.cursor = s.frameLen + 3 → P (checksumLowByte b s))
    (hp : 4 ≤ s.cursor → s.cursor ≠ s.frameLen + 2 → s.cursor ≠ s.frameLen + 3 → P (payloadByte b s)) :
    P (consumeByte b s) := by
  by_cases c0 : s.cursor = 0
  · rw [consumeByte_zero c0]; exact h0 c0
  by_cases c1 : s.cursor = 1
  · rw [consumeByte_one c1]; exact h1 c1
  by_cases c2 : s.cursor = 2
  · rw [consumeByte_two c2]; exact h2 c2
  by_cases c3 : s.cursor = 3
  · rw [consumeByte_three c3]; exact h3 c3
  have h4 : 4 ≤ s.cursor := by omega
  by_cases ch : s.cursor = s.frameLen + 2
  · rw [consumeByte_checksumHigh h4 ch]; exact hh h4 ch
  by_cases cl : s.cursor = s.frameLen + 3
  · rw [consumeByte_checksumLow h4 cl]; exact hl h4 cl
  · rw [consumeByte_payload h4 ch cl]; exact hp h4 ch cl

/-- What no transition touches (R116, R150 from the decoder's side). -/
theorem consumeByte_frame (b : Byte) (s : State) :
    (consumeByte b s).cfg = s.cfg ∧ (consumeByte b s).mode = s.mode ∧ (consumeByte b s).rxq = s.rxq ∧
    (consumeByte b s).txlog = s.txlog ∧ (consumeByte b s).now = s.now ∧ (consumeByte b s).inbox = s.inbox ∧
    (consumeByte b s).refusalMark = s.refusalMark := by
  apply consumeByte_cases (P := fun t => t.cfg = s.cfg ∧ t.mode = s.mode ∧ t.rxq = s.rxq ∧ t.txlog = s.txlog ∧
    t.now = s.now ∧ t.inbox = s.inbox ∧ t.refusalMark = s.refusalMark) b s <;> intros
  · unfold firstStartByte; split <;> simp
  · unfold secondStartByte; split <;> simp
  · simp [lengthHighByte]
  · simp only [lengthLowByte]; split <;> simp
  · simp [checksumHighByte]
  · simp only [checksumLowByte]; split <;> simp
  · simp [payloadByte]

/-- What no STEP touches; `rxq` loses its oldest byte, if it has one (R57, R116). -/
theorem decoderStep_frame (s : State) :
    (decoderStep s).cfg = s.cfg ∧ (decoderStep s).mode = s.mode ∧ (decoderStep s).rxq = s.rxq.tail ∧
    (decoderStep s).txlog = s.txlog ∧ (decoderStep s).now = s.now ∧ (decoderStep s).inbox = s.inbox ∧
    (decoderStep s).refusalMark = s.refusalMark := by
  cases h : s.rxq with
  | nil => simp [decoderStep_nil h, h]
  | cons b rest => rw [decoderStep_cons h]; simpa using consumeByte_frame b { s with ok := .waiting, rxq := rest }

@[simp] theorem decoderStep_cfg (s : State) : (decoderStep s).cfg = s.cfg := (decoderStep_frame s).1
@[simp] theorem decoderStep_mode (s : State) : (decoderStep s).mode = s.mode := (decoderStep_frame s).2.1
@[simp] theorem decoderStep_rxq (s : State) : (decoderStep s).rxq = s.rxq.tail := (decoderStep_frame s).2.2.1
@[simp] theorem decoderStep_txlog (s : State) : (decoderStep s).txlog = s.txlog := (decoderStep_frame s).2.2.2.1
@[simp] theorem decoderStep_now (s : State) : (decoderStep s).now = s.now := (decoderStep_frame s).2.2.2.2.1
@[simp] theorem decoderStep_inbox (s : State) : (decoderStep s).inbox = s.inbox := (decoderStep_frame s).2.2.2.2.2.1
@[simp] theorem decoderStep_refusalMark (s : State) : (decoderStep s).refusalMark = s.refusalMark :=
  (decoderStep_frame s).2.2.2.2.2.2

/-- The record changes only where `ok` is set, and then it is the buffer's fields (R111). -/
theorem consumeByte_record (b : Byte) (s : State) (hok : s.ok = .waiting) :
    ((consumeByte b s).ok = .waiting ∧ (consumeByte b s).record = s.record) ∨
    ((consumeByte b s).ok = .ok ∧ (consumeByte b s).record = fieldsOfBuffer s.buf) := by
  apply consumeByte_cases (P := fun t => (t.ok = .waiting ∧ t.record = s.record) ∨
    (t.ok = .ok ∧ t.record = fieldsOfBuffer s.buf)) b s <;> intros
  · unfold firstStartByte; split <;> simp [hok]
  · unfold secondStartByte; split <;> simp [hok]
  · simp [lengthHighByte, hok]
  · simp only [lengthLowByte]; split <;> simp [hok]
  · simp [checksumHighByte, hok]
  · simp only [checksumLowByte]; split <;> simp [hok]
  · simp [payloadByte, hok]

/-- A transition neither reads nor writes what stands behind the byte on `rxq`, nor the pending inputs. -/
theorem consumeByte_outside (b : Byte) (s : State) (q : List Byte) (ps : List Input) :
    consumeByte b { s with rxq := q, inbox := ps } = { consumeByte b s with rxq := q, inbox := ps } := by
  have h0 : firstStartByte b { s with rxq := q, inbox := ps } = { firstStartByte b s with rxq := q, inbox := ps } := by
    unfold firstStartByte; dsimp only; split <;> rfl
  have h1 : secondStartByte b { s with rxq := q, inbox := ps } = { secondStartByte b s with rxq := q, inbox := ps } := by
    unfold secondStartByte; dsimp only; split <;> rfl
  have h3 : lengthLowByte b { s with rxq := q, inbox := ps } = { lengthLowByte b s with rxq := q, inbox := ps } := by
    unfold lengthLowByte lengthAccepted writeFrameLen; dsimp only; split <;> rfl
  have hl : checksumLowByte b { s with rxq := q, inbox := ps } = { checksumLowByte b s with rxq := q, inbox := ps } := by
    unfold checksumLowByte checksumMatches writeRxSum; dsimp only; split <;> rfl
  have hp : payloadByte b { s with rxq := q, inbox := ps } = { payloadByte b s with rxq := q, inbox := ps } := by
    unfold payloadByte storePayload addToSum writeSum; dsimp only; split <;> rfl
  unfold consumeByte
  dsimp only
  rw [h0, h1, h3, hl, hp]
  split; · rfl
  split; · rfl
  split; · rfl
  split; · rfl
  split; · rfl
  split <;> rfl

/-- `rxq` is empty or has an oldest byte. -/
theorem rxq_cases (s : State) : s.rxq = [] ∨ ∃ b rest, s.rxq = b :: rest := by
  cases s.rxq <;> simp

theorem decoderStep_inbox_comm (s : State) (ps : List Input) :
    decoderStep { s with inbox := ps } = { decoderStep s with inbox := ps } := by
  obtain h | ⟨b, rest, h⟩ := rxq_cases s
  · rw [decoderStep_nil h, decoderStep_nil (s := { s with inbox := ps }) h]
  · rw [decoderStep_cons h, decoderStep_cons (s := { s with inbox := ps }) h]
    have h1 := consumeByte_outside b { s with ok := .waiting, rxq := rest } rest ps
    have h2 := (consumeByte_frame b { s with ok := .waiting, rxq := rest }).2.2.1
    dsimp only at h1 h2 ⊢
    rw [h1, h2]

/-- What the bytes behind the first one are does not matter to a STEP. -/
theorem decoderStep_rxq_append {s : State} (h : s.rxq ≠ []) (more : List Byte) :
    decoderStep { s with rxq := s.rxq ++ more } = { decoderStep s with rxq := s.rxq.tail ++ more } := by
  obtain ⟨b, rest, h⟩ := List.exists_cons_of_ne_nil h
  rw [decoderStep_cons h, decoderStep_cons (s := { s with rxq := s.rxq ++ more }) (b := b) (rest := rest ++ more)
    (by simp [h])]
  have h1 := consumeByte_outside b { s with ok := .waiting, rxq := rest } (rest ++ more) s.inbox
  have h2 := (consumeByte_frame b { s with ok := .waiting, rxq := rest }).2.2.2.2.2.1
  dsimp only at h1 h2 ⊢
  rw [h1, h2, h]
  rfl

end Sys2Proof.Machine
end

