-- ==== Sys2Proof/Laws/Dispatch.lean ====
section
/-! SUPPORT. Every operation answers a next state (spec/00_scope.md R11): `execNext` names it, and the lemmas about whole
steps and runs rewrite `exec`, `perform` and `runOps` to it. -/

namespace Sys2Proof.Machine

/-- The next state of an operation. -/
def execNext : Instr → State → State
  | .step, s => decoderStep s
  | .cmdSleep, s => sendRow sleepRow s
  | .cmdWake, s => sendRow wakeRow s
  | .cmdActive, s => writeMode .active (sendRow activeRow s)
  | .cmdPassive, s => writeMode .passive (sendRow passiveRow s)
  | .cmdReqread, s => if s.mode = .passive then sendRow reqreadRow s else s

@[simp] theorem exec_eq (i : Instr) (s : State) : exec i s = .next (execNext i s) := by cases i <;> rfl

/-- Operations in order, as a fold over states. -/
def execAll : List Instr → State → State
  | [], s => s
  | i :: is, s => execAll is (execNext i s)

@[simp] theorem runOps_eq (is : List Instr) (s : State) : runOps is s = .next (execAll is s) := by
  induction is generalizing s with
  | nil => rfl
  | cons i is ih => simp [runOps, execAll, ih]

theorem execAll_append (is js : List Instr) (s : State) : execAll (is ++ js) s = execAll js (execAll is s) := by
  induction is generalizing s with
  | nil => rfl
  | cons i is ih => simp [execAll, ih]

/-- A command leaves the decoder, `rxq`, the clock and the model's fields alone (R150). -/
theorem execNext_command {i : Instr} (h : i ≠ .step) (s : State) :
    SameDecoder s (execNext i s) ∧ (execNext i s).cfg = s.cfg ∧ (execNext i s).rxq = s.rxq ∧
    (execNext i s).now = s.now ∧ (execNext i s).inbox = s.inbox ∧ (execNext i s).refusalMark = s.refusalMark := by
  cases i <;> first | contradiction | skip
  all_goals simp [execNext, SameDecoder]
  split <;> simp

@[simp] theorem execNext_cfg (i : Instr) (s : State) : (execNext i s).cfg = s.cfg := by
  by_cases h : i = .step
  · subst h; simp [execNext]
  · exact (execNext_command h s).2.1

@[simp] theorem execAll_cfg (is : List Instr) (s : State) : (execAll is s).cfg = s.cfg := by
  induction is generalizing s with
  | nil => rfl
  | cons i is ih => simp [execAll, ih]

/-- An operation does not read the pending inputs. -/
theorem execNext_inbox_comm (i : Instr) (s : State) (ps : List Input) :
    execNext i { s with inbox := ps } = { execNext i s with inbox := ps } := by
  cases i
  · exact decoderStep_inbox_comm s ps
  all_goals first | rfl | (simp only [execNext]; split <;> rfl)

@[simp] theorem receive_nil (s : State) : receive [] s = s := by simp [receive]

theorem decode_encode (i : Instr) : decode (encode i) = some i := by cases i <;> rfl

/-- The next state of an input whose word, if it is one, decodes. -/
theorem perform_next_iff {i : Input} {s t : State} : perform i s = .next t ↔
    (∃ w arr o, i = .op w arr ∧ decode w = some o ∧ t = receive arr (execNext o s)) ∨
    (∃ bs, i = .rx bs ∧ t = receive bs s) ∨ (∃ c, i = .reset c ∧ t = resetBlock s) ∨
    (∃ ms, i = .tick ms ∧ t = advanceClock ms s) := by
  cases i with
  | op w arr =>
    cases hd : decode w with
    | none => simp [perform, issueWord, hd]
    | some o => simp [perform, issueWord, hd, eq_comm]
  | rx bs => simp [perform, eq_comm]
  | reset c => simp [perform, eq_comm]
  | tick ms => simp [perform, eq_comm]

/-- Inputs performed in order: those of the first list, then those of the second. -/
theorem runInputs_append (is js : List Input) (s t : State) :
    runInputs (is ++ js) s = .next t ↔ ∃ u, runInputs is s = .next u ∧ runInputs js u = .next t := by
  induction is generalizing s with
  | nil => simp [runInputs]
  | cons i is ih =>
    simp only [List.cons_append, runInputs]
    cases h : perform i s with
    | next u => simpa using ih u
    | fault r => simp
    | refused r => simp

/-- What a step that answers a next state did: nothing was pending, or one input was performed. -/
theorem step_next_iff {s t : State} : step s = .next t ↔
    s.refusalMark = none ∧ configError s.cfg = none ∧
    ((s.inbox = [] ∧ t = s) ∨
     (∃ w arr rest i, s.inbox = .op w arr :: rest ∧ decode w = some i ∧
        t = receive arr (execNext i { s with inbox := rest })) ∨
     (∃ bs rest, s.inbox = .rx bs :: rest ∧ t = receive bs { s with inbox := rest }) ∨
     (∃ c rest, s.inbox = .reset c :: rest ∧ t = resetBlock { s with inbox := rest }) ∨
     (∃ ms rest, s.inbox = .tick ms :: rest ∧ t = advanceClock ms { s with inbox := rest })) := by
  unfold step
  cases hm : s.refusalMark with
  | some w => simp
  | none =>
    cases hc : configError s.cfg with
    | some e => simp
    | none =>
      cases hi : s.inbox with
      | nil => simpa using eq_comm
      | cons i rest =>
        cases i with
        | op w arr =>
          cases hd : decode w with
          | none =>
            simp only [perform, issueWord, hd]
            constructor
            · intro h; cases h
            · rintro ⟨-, -, ⟨h, -⟩ | ⟨w', arr', rest', i', h, hd', -⟩ | ⟨_, _, h, -⟩ | ⟨_, _, h, -⟩ | ⟨_, _, h, -⟩⟩ <;>
                cases h
              rw [hd] at hd'; cases hd'
          | some i =>
            simp only [perform, issueWord, hd, exec_eq]
            constructor
            · intro h; injection h with h
              exact ⟨trivial, trivial, .inr (.inl ⟨w, arr, rest, i, rfl, hd, h.symm⟩)⟩
            · rintro ⟨-, -, ⟨h, -⟩ | ⟨w', arr', rest', i', h, hd', ht⟩ | ⟨_, _, h, -⟩ | ⟨_, _, h, -⟩ | ⟨_, _, h, -⟩⟩ <;>
                cases h
              rw [hd] at hd'; cases hd'; rw [ht]
        | rx bs => simpa [perform] using eq_comm
        | reset c => simpa [perform] using eq_comm
        | tick ms => simpa [perform] using eq_comm

end Sys2Proof.Machine
end

