-- ==== Sys2Proof/Laws/HostRead.lean ====
section
/-! SUPPORT. The three ways a turn of READ's loop goes (spec/42_host_read.md R172), and that STEP does not read the
clock. Provers cite these instead of unfolding `readTurn`. -/

namespace Sys2Proof.Machine

/-- R172: the STEP of the turn set `ok`. -/
theorem readTurn_success {start t n : Nat} {u : Turn} {s : State} (h : (decoderStep s).ok = .ok) :
    readTurn start t n u s = .inl ⟨.success (decoderStep s).record, decoderStep s, n + 1⟩ := by
  simp [readTurn, h]

/-- R172: no success, and the time is up. -/
theorem readTurn_timeout {start t n : Nat} {u : Turn} {s : State} (h : (decoderStep s).ok ≠ .ok)
    (ht : t ≤ elapsedSince start (advanceClock u.elapse (decoderStep s))) :
    readTurn start t n u s = .inl ⟨.timeout, advanceClock u.elapse (decoderStep s), n + 1⟩ := by
  simp [readTurn, h, ht]

/-- R172, R174: no success, and the time is not up: the host yields. -/
theorem readTurn_yield {start t n : Nat} {u : Turn} {s : State} (h : (decoderStep s).ok ≠ .ok)
    (ht : ¬ t ≤ elapsedSince start (advanceClock u.elapse (decoderStep s))) :
    readTurn start t n u s =
      .inr (advanceClock u.yieldMs (receive u.arrive (advanceClock u.elapse (decoderStep s)))) := by
  unfold readTurn
  simp only [h, if_false]
  rw [if_neg ht]

theorem consumeByte_now_comm (b : Byte) (s : State) (x : Nat) :
    consumeByte b { s with now := x } = { consumeByte b s with now := x } := by
  have h0 : firstStartByte b { s with now := x } = { firstStartByte b s with now := x } := by
    unfold firstStartByte; dsimp only; split <;> rfl
  have h1 : secondStartByte b { s with now := x } = { secondStartByte b s with now := x } := by
    unfold secondStartByte; dsimp only; split <;> rfl
  have h3 : lengthLowByte b { s with now := x } = { lengthLowByte b s with now := x } := by
    unfold lengthLowByte lengthAccepted writeFrameLen; dsimp only; split <;> rfl
  have hl : checksumLowByte b { s with now := x } = { checksumLowByte b s with now := x } := by
    unfold checksumLowByte checksumMatches writeRxSum; dsimp only; split <;> rfl
  have hp : payloadByte b { s with now := x } = { payloadByte b s with now := x } := by
    unfold payloadByte storePayload addToSum writeSum; dsimp only; split <;> rfl
  unfold consumeByte
  dsimp only
  rw [h0, h1, h3, hl, hp]
  split; · rfl
  split; · rfl
  split; · rfl
  split; · rfl
  split; · rfl
  split <;> rfl

/-- STEP neither reads nor writes the clock (R170: the block never reads it). -/
theorem decoderStep_now_comm (s : State) (x : Nat) :
    decoderStep { s with now := x } = { decoderStep s with now := x } := by
  obtain h | ⟨b, rest, h⟩ := rxq_cases s
  · rw [decoderStep_nil h, decoderStep_nil (s := { s with now := x }) h]
  · rw [decoderStep_cons h, decoderStep_cons (s := { s with now := x }) h]
    exact consumeByte_now_comm b { s with ok := .waiting, rxq := rest } x

/-- R172: the elapsed time is exact modulo `2^CLOCK_W`, whatever the counter held at the start. -/
theorem elapsed_wraps {m start e : Nat} (h : 0 < m) : ((start + e) % m + m - start % m) % m = e % m := by
  have h1 := Nat.mod_lt start h
  have h2 := Nat.mod_lt (start + e) h
  have h3 : (start + e) % m + m - start % m = (start + e) % m + (m - start % m) := by omega
  rw [h3, Nat.mod_add_mod]
  have h4 : start + e + (m - start % m) = e + m * (start / m + 1) := by
    have := Nat.div_add_mod start m
    rw [Nat.mul_add, Nat.mul_one]; omega
  rw [h4, Nat.add_mul_mod_self_left]

end Sys2Proof.Machine
end

