-- ==== Sys2Proof/Laws/Lut.lean ====
section
/-! SUPPORT. The rows of the command LUT offset by offset (spec/41_command.md R141 to R143): what a row built from per-command
bytes holds, and what the two checks of a row say. Provers cite these instead of unfolding the checks. -/

namespace Sys2Proof.Machine

@[simp] theorem commandRow_length (t : Frame) (op var ck : Byte) : (commandRow t op var ck).length = t.length := by
  simp [commandRow]

/-- R141: the per-command bytes stand at offsets 4, 7 and 15 only. -/
theorem commandRow_get (t : Frame) (op var ck : Byte) {j : Nat} (h4 : j ≠ 4) (h7 : j ≠ 7) (h15 : j ≠ 15) :
    (commandRow t op var ck)[j]? = t[j]? := by
  simp only [commandRow]
  rw [List.getElem?_set_ne (by omega), List.getElem?_set_ne (by omega), List.getElem?_set_ne (by omega)]

/-- R141, offset by offset. -/
theorem fixedBytesOk_iff {t row : Frame} : fixedBytesOk t row = true ↔
    row.length = t.length ∧ ∀ j, j ≠ 4 → j ≠ 7 → j ≠ 15 → row[j]? = t[j]? := by
  simp only [fixedBytesOk, beq_iff_eq]
  constructor
  · intro h
    refine ⟨by simpa [blank] using congrArg List.length h, fun j h4 h7 h15 => ?_⟩
    rw [← commandRow_get row 0 0 0 h4 h7 h15, ← commandRow_get t 0 0 0 h4 h7 h15]
    exact congrArg (·[j]?) h
  · rintro ⟨hl, h⟩
    apply List.ext_getElem?
    intro j
    by_cases h4 : j = 4
    · subst h4; simp [blank, commandRow, hl, List.getElem?_set]
    by_cases h7 : j = 7
    · subst h7; simp [blank, commandRow, hl, List.getElem?_set]
    by_cases h15 : j = 15
    · subst h15; simp [blank, commandRow, hl, List.getElem?_set]
    · simp only [blank]; rw [commandRow_get _ _ _ _ h4 h7 h15, commandRow_get _ _ _ _ h4 h7 h15, h j h4 h7 h15]

/-- R143, byte by byte. -/
theorem rowChecksumOk_iff {row : Frame} : rowChecksumOk row = true ↔
    ∃ hi lo : Byte, row[14]? = some hi ∧ row[15]? = some lo ∧
      256 * hi.toNat + lo.toNat = ((row.take 14).map (fun b => b.toNat)).sum % 2 ^ 16 := by
  have h14 : row[14]? = (row.drop 14)[0]? := by simp
  have h15 : row[15]? = (row.drop 14)[1]? := by simp
  unfold rowChecksumOk
  rw [h14, h15]
  have e : ((row.take 14).map (fun b => b.toNat)).sum = byteTotal (row.take 14) := rfl
  rw [e]
  rcases row.drop 14 with _ | ⟨hi, _ | ⟨lo, rest⟩⟩
  · simp
  · simp
  · simp [pairAt_sixteen, zext]

/-- The two checks of a row are the well-formedness of R141 and R143. -/
theorem legalRow_iff {c : Config} (hl : c.cmdTemplate.length = c.cmdFrameLen) {row : Frame} :
    LegalRow c row ↔ fixedBytesOk c.cmdTemplate row = true ∧ rowChecksumOk row = true := by
  rw [fixedBytesOk_iff, rowChecksumOk_iff, LegalRow, ← hl, and_assoc]

/-- A row built from per-command bytes has the fixed bytes. -/
theorem fixedBytesOk_commandRow (t : Frame) (op var ck : Byte) : fixedBytesOk t (commandRow t op var ck) = true :=
  fixedBytesOk_iff.2 ⟨by simp, fun _ h4 h7 h15 => commandRow_get t op var ck h4 h7 h15⟩

end Sys2Proof.Machine
end

