-- ==== Sys2Proof/Laws/PerInstr.lean ====
section
/-! SUPPORT. What is said once per operation: the family EncodeFields, about the operation as syntax
(spec/30_encoding.md R71, R73). -/

namespace Sys2Proof.Laws.EncodeFields

/-- The fields of the operation are legal and are read back whole from its word, and a row of the operation map pairs
the operation with that word. -/
def Statement (i : Instr) : Prop :=
  (encodeFields i).wf = true ∧ fieldsOf (encode i) = encodeFields i ∧
  ∃ r ∈ opTable, r.instr = i ∧ r.pattern = encode i

theorem step : Statement .step := by unfold Statement; decide

theorem cmdSleep : Statement .cmdSleep := by unfold Statement; decide

theorem cmdWake : Statement .cmdWake := by unfold Statement; decide

theorem cmdActive : Statement .cmdActive := by unfold Statement; decide

theorem cmdPassive : Statement .cmdPassive := by unfold Statement; decide

theorem cmdReqread : Statement .cmdReqread := by unfold Statement; decide

end Sys2Proof.Laws.EncodeFields
end

