-- ==== Sys2Proof/Tests/Slice0.lean ====
section
/-! SUPPORT. Tests of the model, with expected values from spec/95_test_vectors.md or worked out by hand from the rules,
and one witness for the hypotheses of each statement. -/

namespace Sys2Proof.Tests

open Sys2Proof Sys2Proof.Machine

/-! ### Helpers -/

/-- A row with the source's fixed bytes. -/
def sourceRow (op var ck : Byte) : Frame := commandRow Config.sourceTemplate op var ck

/-- A named LUT (D10): rows V-LUT-01, V-LUT-02 and V-LUT-03, and two rows with `0x7D + op + var = 0x100 + ck`. -/
def labRows : Vector Frame 5 :=
  #v[sourceRow 0xA1 0x00 0x1E, sourceRow 0x83 0x00 0x00, sourceRow 0xFF 0x83 0xFF, sourceRow 0x90 0x00 0x0D,
     sourceRow 0x32 0x61 0x10]

def labConfig : Config := { cmdLut := .table labRows [] }

/-- A configuration whose only accepted length is 2, the least there is (R119): a frame is 6 bytes. -/
def tinyConfig : Config := { lenLong := 2, acceptShort := false, cmdLut := .table labRows [] }

/-- A row of 17 bytes, whose last is a fixed byte. -/
def smallRow (op var ck : Byte) : Frame := sourceRow op var ck ++ [0x55]

/-- Every size of R5 other than the source's: two fields, 8-bit checksum and length registers, a 4-bit cursor, six rows
of 17 bytes. -/
def smallConfig : Config :=
  { lenShort := 4, lenLong := 6, payloadCap := 4, nFields := 2, checksumWidth := 8, frameLenWidth := 8, cursorWidth := 4,
    nCmd := 6, cmdFrameLen := 17, cmdTemplate := Config.sourceTemplate ++ [0x55],
    cmdLut := .table
      #v[smallRow 0xA1 0x00 0x1E, smallRow 0x83 0x00 0x00, smallRow 0xFF 0x83 0xFF, smallRow 0x90 0x00 0x0D,
         smallRow 0x32 0x61 0x10] [smallRow 0x84 0x00 0x01] }

/-- After power-up with the named LUT. -/
def lab : State := powerUp labConfig

def tiny : State := powerUp tinyConfig

def small : State := powerUp smallConfig

/-- Mid-frame: the given cursor in a frame of the given length, with these bytes unread. -/
def atByte (cursor : Nat) (len : Nat) (bytes : List Byte) : State :=
  { lab with cursor := cursor, frameLen := len, rxq := bytes }

/-- The invariant as a check that can be evaluated. -/
def invCheck (s : State) : Bool :=
  configOk s.cfg &&
  (s.cursor ≤ 3 || (accepted s.cfg s.frameLen && 4 ≤ s.cursor && s.cursor ≤ s.frameLen + 3)) &&
  s.cursor < 2 ^ s.cfg.cursorWidth && s.frameLen < 2 ^ s.cfg.frameLenWidth && s.sumAcc < 2 ^ s.cfg.checksumWidth &&
  s.rxSum < 2 ^ s.cfg.checksumWidth && s.buf.length == s.cfg.payloadCap && s.record.length == s.cfg.nFields &&
  s.txlog.all (·.length == s.cfg.cmdFrameLen) && s.now < 2 ^ s.cfg.clockWidth

theorem inv_of_check {s : State} (h : invCheck s = true) : s.Inv := by
  simp only [invCheck, Bool.and_eq_true, Bool.or_eq_true, decide_eq_true_eq, beq_iff_eq, List.all_eq_true] at h
  obtain ⟨⟨⟨⟨⟨⟨⟨⟨⟨h1, h2⟩, h3⟩, h4⟩, h5⟩, h6⟩, h7⟩, h8⟩, h9⟩, h10⟩ := h
  exact ⟨h1, h2.imp id fun h => ⟨h.1.1, h.1.2, h.2⟩, h3, h4, h5, h6, h7, h8, h9, h10⟩

/-- The outcome is a next state with this property. -/
def isNext (o : Host.Outcome State Fault Refusal) (p : State → Bool) : Bool :=
  match o with
  | .next t => p t
  | .fault _ => false
  | .refused _ => false

/-- The outcome is this refusal. -/
def isRefused (o : Host.Outcome State Fault Refusal) (r : Refusal) : Bool :=
  match o with
  | .next _ => false
  | .fault _ => false
  | .refused q => q == r

/-- The frame of length 2: `32 3D 00 02` sums to `0x71`. -/
def tinyFrame : List Byte := [0x32, 0x3D, 0x00, 0x02, 0x00, 0x71]

/-- Its parts. -/
def tinyParts : RxFrame := ⟨0x00, 0x02, [], 0x00, 0x71⟩

/-- F2 of 95_test_vectors.md: the short length of the source. -/
def shortParts : RxFrame := ⟨0x00, 0x0C, [0x00, 0x0A, 0x00, 0x14, 0x00, 0x1E, 0x00, 0x28, 0x00, 0x32], 0x01, 0x11⟩

/-! ### Decoding: the words of 30_encoding.md R73, bit by bit (V-ENC-01 to V-ENC-14) -/

theorem test_decode_step : decode 0b00000000#8 = some .step := by decide
theorem test_decode_sleep : decode 0b00010000#8 = some .cmdSleep := by decide
theorem test_decode_wake : decode 0b00010001#8 = some .cmdWake := by decide
theorem test_decode_active : decode 0b00010010#8 = some .cmdActive := by decide
theorem test_decode_passive : decode 0b00010011#8 = some .cmdPassive := by decide
theorem test_decode_reqread : decode 0b00010100#8 = some .cmdReqread := by decide
theorem test_decode_reserved :
    [0x01, 0x08, 0x15, 0x17, 0x18, 0x1C, 0x20, 0xFF].all (fun w : Byte => decode w == none) = true := by decide
theorem test_decode_table_word :
    decodeTableWord 8 0x14 = some .cmdReqread ∧ decodeTableWord 8 0x15 = none := by decide
theorem test_selector : selectorOf 0x14 = some 4 ∧ selectorOf 0x15 = none := by decide

/-! ### WellFormed and the configuration check: an ill-formed term for each check -/

theorem test_illformed_class : (OpFields.mk 2 0 0).classOk = false ∧ (OpFields.mk 2 0 0).wf = false := by decide
theorem test_illformed_rsv : (OpFields.mk 0 1 0).rsvOk = false ∧ (OpFields.mk 0 1 0).wf = false := by decide
theorem test_illformed_sel_decoder : (OpFields.mk 0 0 1).selOk = false ∧ (OpFields.mk 0 0 1).wf = false := by decide
theorem test_illformed_sel_command : (OpFields.mk 1 0 5).selOk = false ∧ (OpFields.mk 1 0 5).wf = false := by decide

theorem test_config_default : configError Config.default = none := by decide
theorem test_config_lab : configError labConfig = none := by decide
theorem test_config_tiny : configError tinyConfig = none := by decide
theorem test_config_small : configError smallConfig = none := by decide
theorem test_config_payloadCap : configError { payloadCap := 17 } = some .payloadCap := by decide
theorem test_config_lengthTooShort : configError { lenLong := 1 } = some .lengthTooShort := by decide
theorem test_config_commandCount : configError { nCmd := 4 } = some .commandCount ∧
    configError { labConfig with nCmd := 6 } = some .commandCount := by decide
theorem test_config_commandFrameLen : configError { cmdFrameLen := 17 } = some .commandFrameLen ∧
    configError { cmdFrameLen := 15, cmdTemplate := Config.sourceTemplate.take 15 } = some .commandFrameLen := by decide
/-- R119: `28 + 3 = 31` fits in 5 bits and not in 4; the short length is only checked where it is accepted. -/
theorem test_config_cursorTooNarrow : configError { cursorWidth := 4 } = some .cursorTooNarrow ∧
    configError { cursorWidth := 5 } = none ∧ configError { lenShort := 0, acceptShort := false } = none := by decide
/-- R143 with the high byte `0xFF`: no two bytes sum to it. The source's fixed bytes leave `131` to `386` (D11). -/
theorem test_config_noLegalRow :
    configError { cmdTemplate := Config.sourceTemplate.set 14 0xFF } = some .noLegalRow ∧
    openLow Config.sourceTemplate = 131 ∧ openHigh Config.sourceTemplate = 386 := by decide
theorem test_config_rowFixedBytes :
    configError { cmdLut := .table (labRows.set 3 (labRows[3].set 5 0x01)) [] } = some (.rowFixedBytes 3) := by decide
/-- V-LUT-06: the W3 row with its last byte altered. -/
theorem test_config_rowChecksum :
    configError { cmdLut := .table (labRows.set 0 (sourceRow 0xA1 0x00 0x1F)) [] } = some (.rowChecksum 0) := by decide
/-- V-LUT-01 to V-LUT-05. -/
theorem test_lut_vectors : rowChecksumOk (sourceRow 0xA1 0x00 0x1E) = true ∧
    rowChecksumOk (sourceRow 0x83 0x00 0x00) = true ∧ rowChecksumOk (sourceRow 0xFF 0x83 0xFF) = true ∧
    rowChecksumOk (sourceRow 0x82 0x00 0xFF) = false ∧ rowChecksumOk (sourceRow 0xFF 0x84 0x00) = false := by decide
/-- 00_scope.md R5: the defaults of the framing parameters. -/
theorem test_config_values : Config.default.start1 = 0x32 ∧ Config.default.start2 = 0x3D ∧
    Config.default.lenShort = 0x000C ∧ Config.default.lenLong = 0x001C ∧ Config.default.payloadCap = 18 ∧
    Config.default.cursorWidth = 8 ∧ Config.default.timeoutDefaultMs = 1000 ∧ Config.default.clockWidth = 32 ∧
    Config.default.nFields = 9 ∧ Config.default.checksumWidth = 16 ∧ Config.default.frameLenWidth = 16 ∧
    Config.default.nCmd = 5 ∧ Config.default.cmdFrameLen = 16 ∧ Config.default.acceptShort = true := by decide

/-! ### Arithmetic (V-AR-01 to V-AR-08) -/

theorem test_add16 : addAt 16 0x00B8 0x00 = 0x00B8 ∧ addAt 16 0xFFFF 0x01 = 0x0000 ∧ addAt 16 0xFFF0 0xFF = 0x00EF := by
  decide
theorem test_pairs : shl8 0x01 = 0x0100 ∧ 0x1A00 ||| zext 0x71 = 0x1A71 ∧ concat 0x12 0x34 = 0x1234 ∧
    concat 0xFF 0xFF = 0xFFFF := by decide
theorem test_elapsed_wraps : elapsedSince 0xFFFFFFFE { lab with now := 3 } = 5 := by decide

/-! ### One step per operation, at most two tests each -/

/-- V-STEP-14 at its fourth byte: the length is kept though rejected, and the byte is not summed. -/
theorem test_step_rejects_length :
    isNext (step ({ atByte 3 0x0000 [0x1D] with sumAcc := 0x006F }.withFetchWord 8 0x00)) (fun t =>
      t.cursor == 0 && t.frameLen == 0x001D && t.sumAcc == 0x006F && t.ok == .waiting && t.rxq == []) = true := by
  decide

/-- V-STEP-27 (Fmax) at its last byte: the record and `ok`. Then the last byte of a frame at other sizes (by hand from R109
to R111), whose 8-bit checksum register keeps the low byte. -/
theorem test_step_commits :
    isNext (step ({ atByte 31 0x001C [0x71, 0x32] with
        sumAcc := 0x1A71, rxSum := 0x1A00, buf := List.replicate 18 0xFF }.withFetchWord 8 0x00)) (fun t =>
      t.cursor == 0 && t.ok == .ok && t.rxSum == 0x1A71 && t.record == List.replicate 9 0xFFFF &&
      t.rxq == [0x32]) = true ∧
    isNext (step ({ small with cursor := 9, frameLen := 6, rxq := [0x71], sumAcc := 0x71, rxSum := 0x00,
                               buf := [0x12, 0x34, 0x56, 0x78] }.withFetchWord 8 0x00)) (fun t =>
      t.cursor == 0 && t.ok == .ok && t.rxSum == 0x71 && t.record == [0x1234, 0x5678]) = true := by decide

/-- V-CMD-07: the row goes to the transport, and `mode` stays. -/
theorem test_sleep :
    isNext (step ({ lab with mode := .passive }.withFetchWord 8 0x10)) (fun t =>
      t.txlog == [[0x33, 0x3E, 0x00, 0x0C, 0xA1, 0, 0, 0x00, 0, 0, 0, 0, 0, 0, 0x01, 0x1E]] &&
      t.mode == .passive) = true := by decide

/-- V-CMD-02. -/
theorem test_wake :
    isNext (step ({ lab with mode := .passive }.withFetchWord 8 0x11)) (fun t =>
      t.txlog == [[0x33, 0x3E, 0x00, 0x0C, 0x83, 0, 0, 0x00, 0, 0, 0, 0, 0, 0, 0x01, 0x00]] &&
      t.mode == .passive) = true := by decide

/-- A row of 17 bytes is sent whole. -/
theorem test_wake_small :
    isNext (step (small.withFetchWord 8 0x11)) (fun t =>
      t.txlog == [[0x33, 0x3E, 0x00, 0x0C, 0x83, 0, 0, 0x00, 0, 0, 0, 0, 0, 0, 0x01, 0x00, 0x55]]) = true := by decide

/-- V-CMD-03. -/
theorem test_active :
    isNext (step ({ lab with mode := .passive }.withFetchWord 8 0x12)) (fun t =>
      t.txlog == [[0x33, 0x3E, 0x00, 0x0C, 0xFF, 0, 0, 0x83, 0, 0, 0, 0, 0, 0, 0x01, 0xFF]] &&
      t.mode == .active) = true := by decide

/-- V-CMD-04, sent after what was sent before. -/
theorem test_passive :
    isNext (step ({ lab with txlog := [labRows[0]] }.withFetchWord 8 0x13)) (fun t =>
      t.txlog == [labRows[0], [0x33, 0x3E, 0x00, 0x0C, 0x90, 0, 0, 0x00, 0, 0, 0, 0, 0, 0, 0x01, 0x0D]] &&
      t.mode == .passive) = true := by decide

/-- V-CMD-06. -/
theorem test_reqread_passive :
    isNext (step ({ lab with mode := .passive }.withFetchWord 8 0x14)) (fun t =>
      t.txlog == [[0x33, 0x3E, 0x00, 0x0C, 0x32, 0, 0, 0x61, 0, 0, 0, 0, 0, 0, 0x01, 0x10]] &&
      t.mode == .passive) = true := by decide

/-- V-CMD-05: from reset nothing is sent, whatever the free LUT holds. -/
theorem test_reqread_active :
    isNext (step (State.reset.withFetchWord 8 0x14)) (fun t => t.txlog == [] && t.mode == .active) = true := by decide

/-- V-ENC-09: a reserved word is refused by name. -/
theorem test_reserved_refused :
    isRefused (step (lab.withFetchWord 8 0x15)) (.reservedEncoding 0x15) = true := by decide

/-- I16: an ill-formed configuration is refused by name. -/
theorem test_config_refused :
    isRefused (step ((powerUp { payloadCap := 17 }).withFetchWord 8 0x00)) (.illFormedConfig .payloadCap) = true := by
  decide

/-- R186 item 2: reset wins over the operation asserted with it. -/
theorem test_reset_wins :
    isNext (step { atByte 17 0x001C [0x07] with mode := .passive, ok := .ok, inbox := [.reset (some 0x10)] }) (fun t =>
      t == { lab with rxq := [0x07] }) = true := by decide

/-- R170: the clock wraps. -/
theorem test_tick_wraps :
    isNext (step { lab with now := 0xFFFFFFFE, inbox := [.tick 5] }) (fun t => t.now == 3) = true := by decide

/-- V-READ-04: readings 100, 101, 103, 105. -/
theorem test_read_times_out :
    (readTimeout 5 ⟨1, [], 0⟩ [⟨2, [], 0⟩, ⟨2, [], 0⟩] { lab with now := 100 }).result = .timeout ∧
    (readTimeout 5 ⟨1, [], 0⟩ [⟨2, [], 0⟩, ⟨2, [], 0⟩] { lab with now := 100 }).steps = 3 := by decide

/-- R78: without `t`, READ uses `TIMEOUT_DEFAULT_MS`. -/
theorem test_read_default : (readDefault ⟨999, [], 1⟩ [⟨0, [], 0⟩] lab).steps = 2 ∧
    (readDefault ⟨1000, [], 0⟩ [⟨0, [], 0⟩] lab).steps = 1 := by decide

/-! ### Witnesses: a state and operands that meet all hypotheses of a statement together -/

theorem test_witness_DecodeInvertsEncode :
    Instr.cmdReqread.wf = true ∧ decode (encode .cmdReqread) = some .cmdReqread := by decide

theorem test_witness_OperationSequencesRoundTrip :
    (∀ i ∈ [Instr.cmdPassive, .step], i.wf = true) ∧ decodeAll [0x13, 0x00] = .ok [.cmdPassive, .step] ∧
    decodeAll [0x13, 0x15, 0x00] = .error (.reservedEncoding 0x15) ∧ decodeAll [] = .ok [] := ⟨by decide, rfl, rfl, rfl⟩

/-- The state of the statements about a pending operation word. -/
def pending (w : Byte) : State := { lab with rxq := [0x32], inbox := [.op w [0x3D], .tick 1] }

theorem test_witness_StepRunsTheDecodedOperation :
    (pending 0x00).refusalMark = none ∧ configOk (pending 0x00).cfg = true ∧
    (pending 0x00).inbox = .op 0x00 [0x3D] :: [.tick 1] ∧ decode 0x00 = some .step := by decide

theorem test_witness_ReservedWordIsRefusedAndMarked :
    (pending 0x15).refusalMark = none ∧ configOk (pending 0x15).cfg = true ∧
    (pending 0x15).inbox = .op 0x15 [0x3D] :: [.tick 1] ∧ decode 0x15 = none := by decide

theorem test_witness_RefusalMarkPersists :
    ({ lab with refusalMark := some 0x15 }).refusalMark = some 0x15 ∧ configOk (pending 0x13).cfg = true ∧
    (runMarked 2 (pending 0x13)).refusalMark = none ∧ (runMarked 1 (pending 0x15)).refusalMark = some 0x15 := by decide

theorem test_witness_IllFormedConfigurationIsRefused :
    (powerUp { payloadCap := 17 }).refusalMark = none ∧
    configError (powerUp { payloadCap := 17 }).cfg = some .payloadCap := by decide

/-- The inner hypotheses of the statement: an accepted length, a table, the built-in LUT. -/
theorem test_witness_ConfigurationConstraints :
    configOk labConfig = true ∧ configOk Config.default = true ∧
    (labConfig.acceptShort = true ∧ 12 = labConfig.lenShort) ∧ 28 = labConfig.lenLong ∧
    labConfig.cmdLut = .table labRows [] ∧ Config.default.cmdLut = .builtIn ∧ configOk smallConfig = true ∧
    configOk { cmdTemplate := Config.sourceTemplate.set 14 0xFF } = false := by decide

theorem test_witness_EnvironmentInputsActOnlyOnTheirOwnState :
    lab.refusalMark = none ∧ configOk lab.cfg = true ∧ lab.inbox = [] ∧
    ({ lab with inbox := [.rx [0x32]] }).inbox = .rx [0x32] :: [] ∧
    ({ lab with inbox := [.tick 1] }).inbox = .tick 1 :: [] := by decide

theorem test_witness_ResetEventRestoresTheRegisters :
    ({ atByte 17 28 [7] with inbox := [.reset (some 0x10)] }).refusalMark = none ∧
    configOk ({ atByte 17 28 [7] with inbox := [.reset (some 0x10)] }).cfg = true ∧
    ({ atByte 17 28 [7] with inbox := [.reset (some 0x10)] }).inbox = .reset (some 0x10) :: [] := by decide

theorem test_witness_InvariantHoldsAtReset :
    configOk smallConfig = true ∧ configOk labConfig = true ∧ SourceFraming labConfig := by
  unfold SourceFraming SourceSizes; decide

theorem test_witness_StepKeepsTheInvariant :
    ({ atByte 31 28 [0x71] with inbox := [.op 0x00 []] }).Inv ∧
    (∃ t, step { atByte 31 28 [0x71] with inbox := [.op 0x00 []] } = .next t) ∧
    ({ small with inbox := [.op 0x10 []] }).Inv ∧ ∃ t, step { small with inbox := [.op 0x10 []] } = .next t :=
  ⟨inv_of_check (by decide), ⟨_, step_next_iff.2 ⟨rfl, by decide, .inr (.inl ⟨_, _, _, _, rfl, rfl, rfl⟩)⟩⟩,
   inv_of_check (by decide), _, step_next_iff.2 ⟨rfl, by decide, .inr (.inl ⟨_, _, _, _, rfl, rfl, rfl⟩)⟩⟩

/-- The sizes that the statements of STEP's transitions assume. -/
theorem lab_sizes : configOk lab.cfg = true ∧ SourceSizes lab.cfg := by unfold SourceSizes; decide

theorem test_witness_StepWithoutByteClearsOk : ({ lab with ok := .ok }).rxq = [] := by decide

theorem test_witness_StepAtCursorZero :
    (configOk lab.cfg = true ∧ SourceSizes lab.cfg) ∧ (atByte 0 28 [0x32, 0x3D]).rxq = 0x32 :: [0x3D] ∧ (atByte 0 28 [0x32, 0x3D]).cursor = 0 ∧
    (0x32 : Byte) = lab.cfg.start1 ∧ (0x3D : Byte) ≠ lab.cfg.start1 := ⟨lab_sizes, by decide⟩

theorem test_witness_StepAtCursorOne :
    (configOk lab.cfg = true ∧ SourceSizes lab.cfg) ∧ (atByte 1 28 [0x32]).rxq = 0x32 :: [] ∧ (atByte 1 28 [0x32]).cursor = 1 ∧
    (0x32 : Byte) ≠ lab.cfg.start2 ∧ (0x3D : Byte) = lab.cfg.start2 := ⟨lab_sizes, by decide⟩

theorem test_witness_StepAtCursorTwo :
    (configOk lab.cfg = true ∧ SourceSizes lab.cfg) ∧ (atByte 2 28 [0xFF]).rxq = 0xFF :: [] ∧ (atByte 2 28 [0xFF]).cursor = 2 := ⟨lab_sizes, by decide⟩

/-- Both accepted lengths, and a length one off. -/
theorem test_witness_StepAtCursorThree :
    configOk lab.cfg = true ∧ (atByte 3 0x0000 [0x1C]).rxq = 0x1C :: [] ∧ (atByte 3 0x0000 [0x1C]).cursor = 3 ∧
    (0x0000 ||| (0x1C : Byte).toNat) % 2 ^ lab.cfg.frameLenWidth = lab.cfg.lenLong ∧
    (lab.cfg.acceptShort = true ∧ (0x0000 ||| (0x0C : Byte).toNat) % 2 ^ lab.cfg.frameLenWidth = lab.cfg.lenShort) ∧
    ¬ ((0x0000 ||| (0x1D : Byte).toNat) % 2 ^ lab.cfg.frameLenWidth = lab.cfg.lenLong ∨
       (lab.cfg.acceptShort = true ∧
        (0x0000 ||| (0x1D : Byte).toNat) % 2 ^ lab.cfg.frameLenWidth = lab.cfg.lenShort)) := by decide

theorem test_witness_StepAtChecksumHighByte :
    (atByte 30 28 [0x1A]).Inv ∧ (configOk lab.cfg = true ∧ SourceSizes lab.cfg) ∧ (atByte 30 28 [0x1A]).rxq = 0x1A :: [] ∧
    4 ≤ (atByte 30 28 [0x1A]).cursor ∧ (atByte 30 28 [0x1A]).cursor = (atByte 30 28 [0x1A]).frameLen + 2 :=
  ⟨inv_of_check (by decide), lab_sizes, by decide⟩

/-- Both clauses, and the least position: cursor 5 of a frame of length 2. -/
theorem test_witness_StepAtChecksumLowByte :
    (atByte 31 28 [0x00]).Inv ∧ (configOk lab.cfg = true ∧ SourceSizes lab.cfg) ∧ (atByte 31 28 [0x00]).rxq = 0x00 :: [] ∧
    4 ≤ (atByte 31 28 [0x00]).cursor ∧ (atByte 31 28 [0x00]).cursor = (atByte 31 28 [0x00]).frameLen + 3 ∧
    (atByte 31 28 [0x00]).rxSum ||| (0x00 : Byte).toNat = (atByte 31 28 [0x00]).sumAcc ∧
    (atByte 31 28 [0x01]).rxSum ||| (0x01 : Byte).toNat ≠ (atByte 31 28 [0x01]).sumAcc :=
  ⟨inv_of_check (by decide), lab_sizes, by decide⟩

theorem test_witness_StepAtChecksumLowByte_least :
    ({ tiny with cursor := 5, frameLen := 2, rxq := [0x00] }).Inv ∧ SourceSizes tiny.cfg ∧ 5 = 2 + 3 :=
  ⟨inv_of_check (by decide), by unfold SourceSizes; decide, rfl⟩

/-- The first payload byte, the last that is stored, the first that is not, and the last. -/
theorem test_witness_StepAtPayloadByte :
    (configOk lab.cfg = true ∧ SourceSizes lab.cfg) ∧
    ((atByte 4 28 [7]).Inv ∧ (atByte 4 28 [7]).rxq = 7 :: [] ∧ 4 ≤ (atByte 4 28 [7]).cursor ∧
      (atByte 4 28 [7]).cursor ≤ (atByte 4 28 [7]).frameLen + 1 ∧ (atByte 4 28 [7]).cursor - 4 < 18) ∧
    ((atByte 21 28 [7]).Inv ∧ (atByte 21 28 [7]).cursor - 4 < 18 ∧
      (atByte 21 28 [7]).cursor ≤ (atByte 21 28 [7]).frameLen + 1) ∧
    ((atByte 22 28 [7]).Inv ∧ 18 ≤ (atByte 22 28 [7]).cursor - 4 ∧
      (atByte 22 28 [7]).cursor ≤ (atByte 22 28 [7]).frameLen + 1) ∧
    ((atByte 29 28 [7]).Inv ∧ 18 ≤ (atByte 29 28 [7]).cursor - 4 ∧
      (atByte 29 28 [7]).cursor = (atByte 29 28 [7]).frameLen + 1) :=
  ⟨lab_sizes, ⟨inv_of_check (by decide), by decide⟩, ⟨inv_of_check (by decide), by decide⟩,
   ⟨inv_of_check (by decide), by decide⟩, ⟨inv_of_check (by decide), by decide⟩⟩

theorem test_witness_StepIsAlwaysLegal :
    stepReport (atByte 31 28 [0x01]) = .checksumMismatch ∧ stepReport (atByte 3 0 [0x1D]) = .unsupportedFrameLength ∧
    lab.rxq = [] := by decide

theorem test_witness_OkReportsThisStep :
    ∃ t u, exec .step (atByte 31 28 [0x00]) = .next t ∧ t.ok = .ok ∧
      exec .step (atByte 31 28 [0x01]) = .next u ∧ u.ok = .waiting :=
  ⟨_, _, rfl, by decide, rfl, by decide⟩

theorem test_witness_UnsuccessfulStepsLookAlike :
    (∃ t, exec .step (atByte 31 28 [0x01]) = .next t) ∧ stepReport (atByte 31 28 [0x01]) ≠ .success ∧
    stepReport (atByte 31 28 [0x00]) = .success :=
  ⟨⟨_, rfl⟩, by decide, by decide⟩

/-- The second clause at the positions of a frame of length 6, at other sizes than the source's. -/
theorem test_witness_CursorMovesByOneOrToZero :
    (atByte 31 28 [0x01]).Inv ∧ (∃ t, exec .step (atByte 31 28 [0x01]) = .next t) ∧
    ({ small with rxq := [0x32] }).Inv ∧ ({ small with cursor := 1, rxq := [0x32] }).Inv ∧
    ({ small with cursor := 2, rxq := [0x32] }).Inv ∧ ({ small with cursor := 4, frameLen := 6, rxq := [0x32] }).Inv ∧
    ({ small with cursor := 7, frameLen := 6, rxq := [0x32] }).Inv ∧ 7 ≤ 6 + 1 ∧
    ({ small with cursor := 8, frameLen := 6, rxq := [0x32] }).Inv ∧ 8 = 6 + 2 ∧
    ({ small with cursor := 9, frameLen := 6, rxq := [0x32] }).Inv ∧ 9 = 6 + 3 :=
  ⟨inv_of_check (by decide), ⟨_, rfl⟩, inv_of_check (by decide), inv_of_check (by decide), inv_of_check (by decide),
   inv_of_check (by decide), inv_of_check (by decide), by decide, inv_of_check (by decide), rfl, inv_of_check (by decide),
   rfl⟩

theorem test_witness_BytesBehindTheFirstDoNotMatter :
    (atByte 4 28 [7]).rxq ≠ [] ∧ ∃ t, exec .step (atByte 4 28 [7]) = .next t :=
  ⟨by decide, _, rfl⟩

/-- A step that commits a record, and a reset that clears one. -/
theorem test_witness_RecordChangesOnlyByCommitOrReset :
    ({ atByte 31 28 [0x00] with buf := List.replicate 18 1, inbox := [.op 0x00 []] }).Inv ∧
    ({ lab with record := List.replicate 9 1, inbox := [.reset none] }).Inv ∧
    isNext (step { atByte 31 28 [0x00] with buf := List.replicate 18 1, inbox := [.op 0x00 []] }) (fun t =>
      t.record != lab.record) = true ∧
    isNext (step { lab with record := List.replicate 9 1, inbox := [.reset none] }) (fun t =>
      t.record != List.replicate 9 1) = true :=
  ⟨inv_of_check (by decide), inv_of_check (by decide), by decide⟩

theorem test_witness_DecoderChangesOnlyByStepOrReset :
    isNext (step { atByte 4 28 [7] with inbox := [.op 0x00 []] }) (fun t => t.cursor != 4) = true ∧
    isNext (step { atByte 4 28 [7] with inbox := [.reset none] }) (fun t => t.cursor != 4) = true ∧
    Instr.cmdSleep ≠ .step := by decide

theorem test_witness_ModeChangesOnlyByItsCommandsOrReset :
    isNext (step { lab with mode := .passive, inbox := [.op 0x12 []] }) (fun t => t.mode != .passive) = true ∧
    isNext (step { lab with inbox := [.op 0x13 []] }) (fun t => t.mode != .active) = true ∧
    isNext (step { lab with mode := .passive, inbox := [.reset none] }) (fun t => t.mode != .passive) = true := by decide

theorem test_witness_OperationsTakeEffectInIssueOrder :
    lab.refusalMark = none ∧ configOk lab.cfg = true ∧
    ({ lab with inbox := [.op 0x13 [], .op 0x14 [], .tick 1] }).inbox =
      [Instr.cmdPassive, .cmdReqread].map (fun i => Input.op (encode i) []) ++ [.tick 1] := by decide

/-- A next state, a refusal, and the same instance among others. -/
theorem test_witness_InstancesAreIndependent :
    [lab, tiny][0]? = some lab ∧ (∃ t, step lab = .next t) ∧ [tiny, pending 0x15][1]? = some (pending 0x15) ∧
    step (pending 0x15) = .refused (.reservedEncoding 0x15) ∧ [lab][0]? = some lab ∧
    ∃ sys', stepInstance 0 [lab, tiny] = .next sys' :=
  ⟨rfl, ⟨_, rfl⟩, rfl, rfl, rfl, _, rfl⟩

theorem test_witness_ReqreadSendsRowFourOnlyInPassiveMode :
    ({ lab with mode := .passive }).mode = .passive ∧ lab.mode = .active := by decide

theorem test_witness_CommandsIgnoreTheDecoder :
    Instr.cmdReqread ≠ .step ∧ (∃ t, exec .cmdReqread lab = .next t) ∧
    (∃ t', exec .cmdReqread (atByte 17 28 [7]) = .next t') ∧ (atByte 17 28 [7]).cfg = lab.cfg ∧
    (atByte 17 28 [7]).mode = lab.mode ∧ (atByte 17 28 [7]).txlog = lab.txlog :=
  ⟨by decide, ⟨_, rfl⟩, ⟨_, rfl⟩, by decide, by decide, by decide⟩

theorem test_witness_LutIsReadOnly :
    labConfig.cmdLut = .table labRows [] ∧ Config.default.cmdLut = .builtIn ∧
    isNext (step (pending 0x10)) (fun t => t.txlog != []) = true := by decide

theorem test_witness_RowsCarryTheFixedBytes :
    (configOk labConfig = true ∧ labConfig.cmdTemplate = Config.sourceTemplate) ∧
    (configOk Config.default = true ∧ Config.default.cmdTemplate = Config.sourceTemplate) := by decide

theorem test_witness_RowsEndInTheirChecksum :
    configOk labConfig = true ∧ configOk Config.default = true ∧ configOk smallConfig = true := by decide

/-- Both sides of the statement: fixed bytes that leave a legal row, and fixed bytes that leave none. -/
theorem test_witness_FreeRowsAreExactlyTheLegalRows :
    16 ≤ Config.default.cmdFrameLen ∧ Config.default.cmdTemplate.length = Config.default.cmdFrameLen ∧
    hasOpenRow Config.sourceTemplate = true ∧ hasOpenRow (Config.sourceTemplate.set 14 0xFF) = false ∧
    16 ≤ smallConfig.cmdFrameLen ∧ smallConfig.cmdTemplate.length = smallConfig.cmdFrameLen := by decide

theorem test_witness_CommandRowsAreNotReceivedFrames :
    ∃ s : State, configOk s.cfg = true ∧ s.cfg.cmdTemplate = Config.sourceTemplate ∧ s.cfg.start1 = 0x32 ∧
      s.cfg.start2 = 0x3D ∧ s.cursor = 0 ∧ s.rxq = lutRead s.cfg 4 ++ [0x32] ∧ 1 ≤ 16 ∧ 16 ≤ 16 :=
  ⟨{ lab with rxq := lutRead labConfig 4 ++ [0x32] }, by decide⟩

/-- The states of R113's bound at cursors 1 to 3, and the largest sums of both lengths (V-STEP-34). -/
theorem test_witness_StepKeepsTheSumBound :
    SourceFraming lab.cfg ∧ SumBounded { atByte 1 0 [0x3D] with sumAcc := 0x32 } ∧
    SumBounded { atByte 2 0 [0x00] with sumAcc := 0x6F } ∧
    SumBounded { atByte 3 0x0000 [0x1C] with sumAcc := 0x6F } ∧
    SumBounded { atByte 31 28 [0x71] with sumAcc := 0x1A71, inbox := [.op 0x00 []] } ∧
    SumBounded { atByte 15 12 [0x71] with sumAcc := 0x0A71 } ∧
    ({ atByte 31 28 [0x71] with sumAcc := 0x1A71, inbox := [.op 0x00 []] }).Inv ∧
    ∃ t, step { atByte 31 28 [0x71] with sumAcc := 0x1A71, inbox := [.op 0x00 []] } = .next t := by
  refine ⟨by unfold SourceFraming SourceSizes; decide, ?_, ?_, ?_, ?_, ?_, inv_of_check (by decide),
    _, step_next_iff.2 ⟨rfl, by decide, .inr (.inl ⟨_, _, _, _, rfl, rfl, rfl⟩)⟩⟩
  · unfold SumBounded; simp [atByte]
  · unfold SumBounded; simp [atByte]
  · unfold SumBounded; simp only [atByte]
    exact ⟨by decide, by decide, by decide, fun _ => ⟨0, by decide, by decide⟩, by decide, by decide⟩
  · unfold SumBounded; simp [atByte]
  · unfold SumBounded; simp [atByte]

/-- The last byte of Fmax (V-STEP-27): the largest sum of a long frame, matched. -/
theorem test_witness_ChecksumAboveTheBoundNeverMatches :
    ∃ s t : State, s.Inv ∧ SourceFraming s.cfg ∧ SumBounded s ∧ exec .step s = .next t ∧ t.ok = .ok ∧
      s.frameLen = 28 ∧ t.rxSum = 0x1A71 := by
  refine ⟨{ atByte 31 28 [0x71] with sumAcc := 0x1A71, rxSum := 0x1A00 }, _, inv_of_check (by decide), ?_, ?_, rfl,
    by decide, by decide, by decide⟩
  · unfold SourceFraming SourceSizes; decide
  · unfold SumBounded; simp [atByte]

/-- The same for the largest short frame (V-STEP-34). -/
theorem test_witness_ChecksumAboveTheBoundNeverMatches_short :
    ∃ s t : State, s.Inv ∧ SourceFraming s.cfg ∧ SumBounded s ∧ exec .step s = .next t ∧ t.ok = .ok ∧
      s.frameLen = 12 ∧ t.rxSum = 0x0A71 := by
  refine ⟨{ atByte 15 12 [0x71] with sumAcc := 0x0A71, rxSum := 0x0A00 }, _, inv_of_check (by decide), ?_, ?_, rfl,
    by decide, by decide, by decide⟩
  · unfold SourceFraming SourceSizes; decide
  · unfold SumBounded; simp [atByte]

/-- Six STEPs over the frame of length 2. -/
theorem test_witness_SuccessNeedsAWellFormedFrame :
    configOk tiny.cfg = true ∧ ({ tiny with rxq := tinyFrame }).cursor = 0 ∧
    ∃ t, runOps (List.replicate 5 .step ++ [.step]) { tiny with rxq := tinyFrame } = .next t ∧ t.ok = .ok :=
  ⟨by decide, rfl, _, rfl, by decide⟩

theorem test_witness_NoStartPairNoSuccess :
    configOk lab.cfg = true ∧ ({ lab with rxq := [0x32, 0x32] }).cursor = 0 ∧
    (∀ before after : List Byte,
      ({ lab with rxq := [0x32, 0x32] }).rxq ≠ before ++ lab.cfg.start1 :: lab.cfg.start2 :: after) ∧ 1 ≤ 1 := by
  refine ⟨by decide, rfl, fun before after h => ?_, by omega⟩
  have hm : (0x3D : Byte) ∈ [(0x32 : Byte), 0x32] := by
    have h' : [(0x32 : Byte), 0x32] = before ++ (0x32 : Byte) :: (0x3D : Byte) :: after := h
    rw [h']; simp
  revert hm; decide

/-- A frame's parts, accepted and with its sum: the least length, and the short length of the source (F2). -/
theorem test_witness_ValidFrame :
    (tinyParts.Framed tinyConfig ∧ tinyParts.Sums tinyConfig ∧ tinyParts.bytes tinyConfig = tinyFrame) ∧
    (shortParts.Framed labConfig ∧ shortParts.Sums labConfig ∧ shortParts.bytes labConfig =
      [0x32, 0x3D, 0x00, 0x0C, 0x00, 0x0A, 0x00, 0x14, 0x00, 0x1E, 0x00, 0x28, 0x00, 0x32, 0x01, 0x11]) := by
  unfold RxFrame.Framed RxFrame.Sums; decide

/-- The frame arrives in pieces, the first byte before and the others among the operations, with a STEP that finds no byte,
a command and a tick between them (V-STEP-32). -/
def pieces : List Input :=
  [.op 0x00 [], .op 0x00 [], .rx [0x3D, 0x00], .tick 3, .op 0x00 [0x02], .op 0x11 [], .op 0x00 [], .op 0x00 [0x00]]

/-- The three clauses: a STEP without a byte early in the frame, all bytes consumed but the last, all consumed. -/
theorem test_witness_ValidFrameSucceedsExactlyOnce :
    ({ tiny with rxq := [0x32] }).Inv ∧ ({ tiny with rxq := [0x32] }).cursor = 0 ∧ (∀ i ∈ pieces, i.isReset = false) ∧
    (∃ t, runInputs (pieces.take 2) { tiny with rxq := [0x32] } = .next t ∧ t.rxq = [] ∧ t.ok = .waiting ∧
      [0x32] ++ arrivals (pieces.take 2) ++ [0x3D, 0x00, 0x02, 0x00, 0x71] = tinyFrame ++ [] ∧
      (pieces.take 2).any Input.isStep = true) ∧
    (∃ t, runInputs (pieces ++ [.op 0x00 [0x71]]) { tiny with rxq := [0x32] } = .next t ∧ t.rxq = [0x71] ∧
      [0x32] ++ arrivals (pieces ++ [.op 0x00 [0x71]]) ++ [0x55] = tinyFrame ++ [0x55]) ∧
    ∃ t, runInputs (pieces ++ [.op 0x00 [0x71], .op 0x00 [0x55]]) { tiny with rxq := [0x32] } = .next t ∧ t.rxq = [0x55] ∧
      [0x32] ++ arrivals (pieces ++ [.op 0x00 [0x71], .op 0x00 [0x55]]) ++ [] = tinyFrame ++ [0x55] ∧ t.ok = .ok :=
  ⟨inv_of_check (by decide), rfl, by decide, ⟨_, rfl, by decide⟩, ⟨_, rfl, by decide⟩, _, rfl, by decide⟩

/-- The same frame with its last byte altered, in pieces too. -/
theorem test_witness_AlteredChecksumNeverSucceeds :
    ({ tiny with rxq := [0x32] }).Inv ∧ ({ tiny with rxq := [0x32] }).cursor = 0 ∧
    ({ tinyParts with sumLo := 0x72 }).Framed tinyConfig ∧ ¬ ({ tinyParts with sumLo := 0x72 }).Sums tinyConfig ∧
    ∃ t, runInputs (pieces ++ [.op 0x00 [0x72], .op 0x00 []]) { tiny with rxq := [0x32] } = .next t ∧ t.rxq = [] ∧
      [0x32] ++ arrivals (pieces ++ [.op 0x00 [0x72], .op 0x00 []]) ++ [] =
        ({ tinyParts with sumLo := 0x72 }).bytes tinyConfig ++ [] ∧ t.ok = .waiting :=
  ⟨inv_of_check (by decide), rfl, by unfold RxFrame.Framed; decide, by unfold RxFrame.Sums; decide, _, rfl, by decide⟩

theorem test_witness_GarbageByteBeforeAFrame :
    ({ tiny with rxq := 0x00 :: tinyFrame }).Inv ∧ ({ tiny with rxq := 0x32 :: tinyFrame }).Inv ∧
    (tinyParts.Framed tinyConfig ∧ tinyParts.Sums tinyConfig) ∧ tiny.cursor = 0 ∧
    ({ tiny with rxq := 0x00 :: tinyFrame }).rxq = 0x00 :: tinyParts.bytes tinyConfig ++ [] ∧
    ({ tiny with rxq := 0x32 :: tinyFrame }).rxq = 0x32 :: tinyParts.bytes tinyConfig ++ [] ∧
    (0x00 : Byte) ≠ tiny.cfg.start1 ∧ (0x32 : Byte) = tiny.cfg.start1 ∧ tiny.cfg.start1 ≠ tiny.cfg.start2 :=
  ⟨inv_of_check (by decide), inv_of_check (by decide), by unfold RxFrame.Framed RxFrame.Sums; decide, by decide⟩

theorem test_witness_ScratchRegistersNeverOutliveAnAttempt :
    configOk (pending 0x00).cfg = true ∧ (pending 0x00).cursor = 0 ∧ ∃ t, runSteps 2 (pending 0x00) = .next t :=
  ⟨by decide, rfl, _, rfl⟩

/-- Width 5, the least that holds the cursors of a frame of length 28. -/
theorem test_witness_CursorWidthIsUnobservable :
    ({ atByte 30 28 [0x1A] with inbox := [.op 0x00 []] }).Inv ∧
    configOk { labConfig with cursorWidth := 5 } = true ∧
    ∃ t, step { atByte 30 28 [0x1A] with inbox := [.op 0x00 []] } = .next t :=
  ⟨inv_of_check (by decide), by decide,
   _, step_next_iff.2 ⟨rfl, by decide, .inr (.inl ⟨_, _, _, _, rfl, rfl, rfl⟩)⟩⟩

/-- The three clauses: success, timeout, and nothing to read after an earlier success (V-READ-06). -/
theorem test_witness_ReadZeroPerformsOneStep :
    (∃ t, exec .step (atByte 31 28 [0x00]) = .next t ∧ t.ok = .ok) ∧
    (∃ t, exec .step (atByte 31 28 [0x01]) = .next t ∧ t.ok = .waiting) ∧ ({ lab with ok := .ok }).rxq = [] :=
  ⟨⟨_, rfl, by decide⟩, ⟨_, rfl, by decide⟩, rfl⟩

theorem test_witness_ReadEndsAsTheLoopSays :
    (∃ r, (readTimeout 5 ⟨1, [], 0⟩ [] (atByte 31 28 [0x00])).result = .success r) ∧
    (readTimeout 5 ⟨5, [], 0⟩ [] lab).result = .timeout ∧ (readTimeout 5 ⟨4, [], 0⟩ [] lab).result = .abandoned :=
  ⟨⟨_, rfl⟩, by decide⟩

/-- A READ whose frame arrives while the host yields (V-READ-08): the second turn's STEPs find it. -/
theorem test_witness_ReadIsRepeatedStep :
    (readTimeout 9 ⟨1, [0x71], 1⟩ [⟨2, [], 0⟩] { tiny with cursor := 5, frameLen := 2, sumAcc := 0x71 }).result =
      .success (List.replicate 9 0) ∧
    (readTimeout 9 ⟨1, [0x71], 1⟩ [⟨2, [], 0⟩] { tiny with cursor := 5, frameLen := 2, sumAcc := 0x71 }).steps = 2 ∧
    (readTimeout 3 ⟨1, [], 0⟩ [⟨2, [], 0⟩] lab).result = .timeout ∧
    (readTimeout 5 ⟨1, [], 0⟩ [⟨2, [], 0⟩] lab).result = .abandoned := by decide

theorem test_witness_ReadEndsOnceTheClockHasAdvanced :
    (⟨1, [], 2⟩ : Turn) :: [⟨2, [], 0⟩] = [⟨1, [], 2⟩] ++ (⟨2, [], 0⟩ : Turn) :: [] ∧
    5 ≤ ([(⟨1, [], 2⟩ : Turn)].map (fun v => v.elapse + v.yieldMs)).sum + 2 ∧
    ([(⟨1, [], 2⟩ : Turn)].map (fun v => v.elapse + v.yieldMs)).sum + 2 < 2 ^ lab.cfg.clockWidth := by decide

end Sys2Proof.Tests
end

section
/-!
The buffer's bytes in pairs: what a commit writes (20_memory.md R55), under the names of R27.
-/
namespace Sys2Proof.Machine

@[simp] theorem fieldsOfBuffer_nil : fieldsOfBuffer [] = [] := rfl

@[simp] theorem fieldsOfBuffer_cons_cons (hi lo : Byte) (rest : Buffer) :
    fieldsOfBuffer (hi :: lo :: rest) = (hi ++ lo) :: fieldsOfBuffer rest := rfl

/-- Settles O28: the buffer is taken apart a pair at a time, and each name of R27 reads its position in the resulting
list. -/
theorem recordFieldsAreBigEndianPairs : Obligations.RecordFieldsAreBigEndianPairs := by
  intro b0 b1 b2 b3 b4 b5 b6 b7 b8 b9 b10 b11 b12 b13 b14 b15 b16 b17 fields
  have pairs : fields = [b0 ++ b1, b2 ++ b3, b4 ++ b5, b6 ++ b7, b8 ++ b9, b10 ++ b11, b12 ++ b13, b14 ++ b15,
      b16 ++ b17] := by
    simp only [fields, fieldsOfBuffer_cons_cons, fieldsOfBuffer_nil]
  rw [pairs]
  exact ⟨rfl, rfl, rfl, rfl, rfl, rfl, rfl, rfl, rfl, rfl⟩

end Sys2Proof.Machine
end

section
/-!
What one STEP with a byte leaves, as an equation between whole states, at every size of R5: one equation per position of
the cursor (40_decoder.md R103 to R112), of cursor 3 the rejected length alone. The transitions that advance ask that
the cursor register holds the next position; a legal configuration (R119) or the invariant (R21) gives that. The side
conditions of the dispatch equations speak of the state with `ok` cleared and the byte taken off `rxq`; `by exact` gives
them from the same facts about `s`.
-/
namespace Sys2Proof.Machine

theorem exec_step_eq (s : State) : exec .step s = .next (decoderStep s) := rfl

theorem advanceCursor_eq {s : State} (fits : s.cursor + 1 < 2 ^ s.cfg.cursorWidth) :
    advanceCursor s = { s with cursor := s.cursor + 1 } := by
  rw [advanceCursor, writeCursor, Nat.mod_eq_of_lt fits]

theorem resync_eq (s : State) : resync s = { s with cursor := 0 } := by
  rw [resync, writeCursor, Nat.zero_mod]

theorem storePayload_eq (i : Nat) (b : Byte) (s : State) :
    storePayload i b s = { s with buf := if i < s.cfg.payloadCap then s.buf.set i b else s.buf } := by
  unfold storePayload; split <;> rfl

/-- An accepted length is in `frameLen` at every cursor beyond the header (R21). -/
theorem State.Inv.frameLen_accepted {s : State} (inv : s.Inv) (h4 : 4 ≤ s.cursor) :
    accepted s.cfg s.frameLen = true := by
  obtain header | ⟨acc, -, -⟩ := inv.cursor
  · omega
  · exact acc

/-- The cursor register holds the last position of the frame (R119). -/
theorem State.Inv.lastCursor_lt {s : State} (inv : s.Inv) (h4 : 4 ≤ s.cursor) :
    s.frameLen + 3 < 2 ^ s.cfg.cursorWidth :=
  (configOk_accepted inv.config (inv.frameLen_accepted h4)).2

section
variable {s : State} {b : Byte} {rest : List Byte} (hq : s.rxq = b :: rest)
include hq

/-- R103. -/
theorem decoderStep_zero (hc : configOk s.cfg = true) (h : s.cursor = 0) :
    decoderStep s = if b = s.cfg.start1 then
        { s with ok := .waiting, rxq := rest, sumAcc := b.toNat % 2 ^ s.cfg.checksumWidth, cursor := 1 }
      else { s with ok := .waiting, rxq := rest } := by
  have header := configOk_header hc
  rw [decoderStep_cons hq, consumeByte_zero (by exact h), firstStartByte,
    advanceCursor_eq (by simp only [writeSum_cursor, writeSum_cfg]; omega)]
  simp only [writeSum, zext, h, Nat.zero_add]

/-- R104. -/
theorem decoderStep_one (hc : configOk s.cfg = true) (h : s.cursor = 1) :
    decoderStep s = if b = s.cfg.start2 then
        { s with
          ok := .waiting, rxq := rest, sumAcc := (s.sumAcc + b.toNat) % 2 ^ s.cfg.checksumWidth, cursor := 2 }
      else { s with ok := .waiting, rxq := rest, cursor := 0 } := by
  have header := configOk_header hc
  rw [decoderStep_cons hq, consumeByte_one (by exact h), secondStartByte, resync_eq,
    advanceCursor_eq (by simp only [addToSum_cursor, addToSum_cfg]; omega)]
  simp only [addToSum, writeSum, zext, h]

/-- R105. -/
theorem decoderStep_two (hc : configOk s.cfg = true) (h : s.cursor = 2) :
    decoderStep s =
      { s with
        ok := .waiting, rxq := rest, sumAcc := (s.sumAcc + b.toNat) % 2 ^ s.cfg.checksumWidth,
        frameLen := 256 * b.toNat % 2 ^ s.cfg.frameLenWidth, cursor := 3 } := by
  have header := configOk_header hc
  rw [decoderStep_cons hq, consumeByte_two (by exact h), lengthHighByte,
    advanceCursor_eq (by simp only [writeFrameLen_cursor, writeFrameLen_cfg, addToSum_cursor, addToSum_cfg]; omega)]
  simp only [writeFrameLen, addToSum, writeSum, shl8, zext, h, Nat.mul_comm]

/-- R106, a length that is not accepted: the cursor's width does not matter, since the decoder resynchronises. -/
theorem decoderStep_three_of_not_accepted (h : s.cursor = 3)
    (rejected : accepted s.cfg ((s.frameLen ||| b.toNat) % 2 ^ s.cfg.frameLenWidth) = false) :
    decoderStep s =
      { s with
        ok := .waiting, rxq := rest, frameLen := (s.frameLen ||| b.toNat) % 2 ^ s.cfg.frameLenWidth, cursor := 0 } := by
  rw [decoderStep_cons hq, consumeByte_three (by exact h)]
  simp only [lengthLowByte, lengthAccepted, writeFrameLen, zext, rejected, resync_eq, Bool.false_eq_true, if_false]

/-- R109. -/
theorem decoderStep_checksumHigh (fits : s.frameLen + 3 < 2 ^ s.cfg.cursorWidth) (h4 : 4 ≤ s.cursor)
    (h : s.cursor = s.frameLen + 2) :
    decoderStep s =
      { s with
        ok := .waiting, rxq := rest, rxSum := 256 * b.toNat % 2 ^ s.cfg.checksumWidth, cursor := s.frameLen + 3 } := by
  rw [decoderStep_cons hq, consumeByte_checksumHigh (by exact h4) (by exact h), checksumHighByte,
    advanceCursor_eq (by simp only [writeRxSum_cursor, writeRxSum_cfg]; omega)]
  simp only [writeRxSum, shl8, zext, h, Nat.mul_comm]

/-- R110, R111: the attempt ends whatever the cursor's width is, so this holds of every state. -/
theorem decoderStep_checksumLow (h4 : 4 ≤ s.cursor) (h : s.cursor = s.frameLen + 3) :
    decoderStep s =
      if (s.rxSum ||| b.toNat) % 2 ^ s.cfg.checksumWidth = s.sumAcc then
        { s with
          rxq := rest, rxSum := (s.rxSum ||| b.toNat) % 2 ^ s.cfg.checksumWidth, cursor := 0, ok := .ok,
          record := fieldsOfBuffer s.buf }
      else
        { s with
          rxq := rest, rxSum := (s.rxSum ||| b.toNat) % 2 ^ s.cfg.checksumWidth, cursor := 0, ok := .waiting } := by
  rw [decoderStep_cons hq, consumeByte_checksumLow (by exact h4) (by exact h)]
  simp only [checksumLowByte, checksumMatches, beq_iff_eq, resync_eq, writeRxSum, zext]
  split <;> rfl

/-- R112. -/
theorem decoderStep_payload (fits : s.cursor + 1 < 2 ^ s.cfg.cursorWidth) (h4 : 4 ≤ s.cursor)
    (h : s.cursor ≤ s.frameLen + 1) :
    decoderStep s =
      { s with
        ok := .waiting, rxq := rest, sumAcc := (s.sumAcc + b.toNat) % 2 ^ s.cfg.checksumWidth, cursor := s.cursor + 1,
        buf := if s.cursor - 4 < s.cfg.payloadCap then s.buf.set (s.cursor - 4) b else s.buf } := by
  have notHigh : s.cursor ≠ s.frameLen + 2 := by omega
  have notLow : s.cursor ≠ s.frameLen + 3 := by omega
  rw [decoderStep_cons hq, consumeByte_payload (by exact h4) (by exact notHigh) (by exact notLow),
    payloadByte, storePayload_eq, advanceCursor_eq (by exact fits)]
  rfl

end

/-! What a commit reads from the buffer (R55, R111). -/

theorem fieldsOfBuffer_length (buf : Buffer) : (fieldsOfBuffer buf).length = buf.length / 2 := by
  induction buf using fieldsOfBuffer.induct with
  | case1 hi lo rest ih => simp [ih]; omega
  | case2 buf short =>
    rcases buf with _ | ⟨hi, _ | ⟨lo, rest⟩⟩
    · simp
    · simp [fieldsOfBuffer]
    · exact absurd rfl (short hi lo rest)

/-- Field `k` is the big-endian pair of the bytes `2k` and `2k + 1`, where the buffer has both. -/
theorem fieldsOfBuffer_pair {buf : Buffer} {k : Nat} (h : 2 * k + 1 < buf.length) :
    ∃ hi lo : Byte,
      buf[2 * k]? = some hi ∧ buf[2 * k + 1]? = some lo ∧ (fieldsOfBuffer buf)[k]? = some (hi ++ lo) := by
  induction k generalizing buf with
  | zero =>
    obtain _ | ⟨hi, _ | ⟨lo, rest⟩⟩ := buf
    · simp at h
    · simp at h
    · exact ⟨hi, lo, rfl, rfl, rfl⟩
  | succ k ih =>
    obtain _ | ⟨hi, _ | ⟨lo, rest⟩⟩ := buf
    · simp at h
    · simp at h
    · have inRest : 2 * k + 1 < rest.length := by simp only [List.length_cons] at h; omega
      simpa [Nat.mul_succ] using ih inRest

/-! When a STEP is reported as a mismatch or as an unaccepted length (60_exceptions.md R180). -/

theorem stepReport_checksumMismatch_iff {s : State} : stepReport s = .checksumMismatch ↔
    ∃ (b : Byte) (rest : List Byte), s.rxq = b :: rest ∧ 4 ≤ s.cursor ∧ s.cursor = s.frameLen + 3 ∧
      (s.rxSum ||| b.toNat) % 2 ^ s.cfg.checksumWidth ≠ s.sumAcc := by
  constructor
  · intro report
    obtain empty | ⟨b, rest, hq⟩ := rxq_cases s
    · simp [stepReport, empty] at report
    · simp only [stepReport, hq] at report
      split_ifs at report with h3 acc low matched
      exact ⟨b, rest, hq, low.1, low.2, matched⟩
  · rintro ⟨b, rest, hq, h4, h, mismatch⟩
    simp only [stepReport, hq]
    rw [if_neg (by omega), if_pos ⟨h4, h⟩]
    exact if_neg mismatch

theorem stepReport_unsupportedFrameLength_iff {s : State} : stepReport s = .unsupportedFrameLength ↔
    ∃ (b : Byte) (rest : List Byte), s.rxq = b :: rest ∧ s.cursor = 3 ∧
      accepted s.cfg ((s.frameLen ||| b.toNat) % 2 ^ s.cfg.frameLenWidth) = false := by
  constructor
  · intro report
    obtain empty | ⟨b, rest, hq⟩ := rxq_cases s
    · simp [stepReport, empty] at report
    · simp only [stepReport, hq] at report
      split_ifs at report with h3 acc low matched
      exact ⟨b, rest, hq, h3, Bool.eq_false_iff.2 acc⟩
  · rintro ⟨b, rest, hq, h3, rejected⟩
    simp [stepReport, hq, h3, zext, rejected]

end Sys2Proof.Machine
end

section
/-!
STEP, transition by transition: the statements of R102 to R112 at the sizes the rules write out, and R117.
-/
namespace Sys2Proof.Machine

/-- At 16 bits the high byte of a pair is not cut (R105, R109). -/
theorem highByte_mod_sixteen (b : Byte) : 256 * b.toNat % 2 ^ 16 = 256 * b.toNat := by
  have := b.isLt
  omega

/-- Or-ing a byte into a 16-bit register does not cut it (R110). -/
theorem or_byte_mod_sixteen {n : Nat} (h : n < 2 ^ 16) (b : Byte) : (n ||| b.toNat) % 2 ^ 16 = n ||| b.toNat :=
  Nat.mod_eq_of_lt (Nat.or_lt_two_pow h (b.isLt.trans (by norm_num)))

/-- Settles O21: R109's transition, whose value 16 bits hold. -/
theorem stepAtChecksumHighByte : Obligations.StepAtChecksumHighByte := by
  rintro s b rest inv ⟨ckw, -, -⟩ hq h4 h
  refine ⟨.waiting, ?_⟩
  rw [exec_step_eq, decoderStep_checksumHigh hq (inv.lastCursor_lt h4) h4 h, ckw, highByte_mod_sixteen]

/-- Settles O22: R110's transition; the buffer of 18 bytes gives nine pairs. -/
theorem stepAtChecksumLowByte : Obligations.StepAtChecksumLowByte := by
  rintro s b rest inv ⟨ckw, -, nine⟩ hq h4 h received
  have rxWidth : s.rxSum < 2 ^ 16 := ckw ▸ inv.rxWidth
  have bufLength : s.buf.length = 18 := by
    rw [inv.bufLength, configOk_payloadCap inv.config, nine]
  have eq := decoderStep_checksumLow hq h4 h
  rw [ckw, or_byte_mod_sixteen rxWidth] at eq
  constructor
  · intro matched
    refine ⟨fieldsOfBuffer s.buf, ?_, ?_, fun k hk => fieldsOfBuffer_pair (by omega)⟩
    · rw [exec_step_eq, eq, if_pos matched]
    · rw [fieldsOfBuffer_length, bufLength]
  · intro mismatch
    rw [exec_step_eq, eq, if_neg mismatch]

/-- Settles O23: R112's transition, with and without room in the buffer. -/
theorem stepAtPayloadByte : Obligations.StepAtPayloadByte := by
  rintro s b rest inv ⟨ckw, -, nine⟩ hq h4 h
  have cap : s.cfg.payloadCap = 18 := by rw [configOk_payloadCap inv.config, nine]
  have fits : s.cursor + 1 < 2 ^ s.cfg.cursorWidth := by
    have := inv.lastCursor_lt h4
    omega
  have eq := decoderStep_payload hq fits h4 h
  rw [ckw, cap] at eq
  refine ⟨cap, .waiting, fun room => ?_, fun full => ?_⟩
  · rw [exec_step_eq, eq, if_pos room]
  · rw [exec_step_eq, eq, if_neg (by omega)]

/-- Settles O24: STEP answers `decoderStep`, whose frame is known; the two reported endings are the resynchronising
branches of R106 and R110. -/
theorem stepIsAlwaysLegal : Obligations.StepIsAlwaysLegal := by
  intro s
  refine ⟨decoderStep s, exec_step_eq s, ?_, decoderStep_nil, ?_⟩
  · rintro (report | report)
    · obtain ⟨b, rest, hq, h4, h, mismatch⟩ := stepReport_checksumMismatch_iff.1 report
      rw [decoderStep_checksumLow hq h4 h, if_neg mismatch]
      exact ⟨rfl, rfl⟩
    · obtain ⟨b, rest, hq, h, rejected⟩ := stepReport_unsupportedFrameLength_iff.1 report
      rw [decoderStep_three_of_not_accepted hq h rejected]
      exact ⟨rfl, rfl⟩
  · simp only [decoderStep_rxq, decoderStep_cfg, decoderStep_mode, decoderStep_txlog, decoderStep_now,
      decoderStep_inbox, decoderStep_refusalMark, and_self]

/-- Settles O16: the shape of a STEP without a byte. -/
theorem stepWithoutByteClearsOk : Obligations.StepWithoutByteClearsOk := by
  intro s empty
  rw [exec_step_eq, decoderStep_nil empty]

/-- Settles O17: a byte fits 16 bits, so the seed of the sum is the byte itself. -/
theorem stepAtCursorZero : Obligations.StepAtCursorZero := by
  rintro s b rest hc ⟨ckw, -, -⟩ hq h
  have seed : b.toNat % 2 ^ 16 = b.toNat := Nat.mod_eq_of_lt (b.isLt.trans (by norm_num))
  have eq := decoderStep_zero hq hc h
  rw [ckw, seed] at eq
  refine ⟨.waiting, fun other => ?_, fun start => ?_⟩
  · rw [exec_step_eq, eq, if_neg other]
  · rw [exec_step_eq, eq, if_pos start]

/-- Settles O18: both branches of the transition at 16 bits. -/
theorem stepAtCursorOne : Obligations.StepAtCursorOne := by
  rintro s b rest hc ⟨ckw, -, -⟩ hq h
  have eq := decoderStep_one hq hc h
  rw [ckw] at eq
  refine ⟨.waiting, fun other => ?_, fun start => ?_⟩
  · rw [exec_step_eq, eq, if_neg other]
  · rw [exec_step_eq, eq, if_pos start]

/-- Settles O19: the length high byte is shifted into a register that holds it. -/
theorem stepAtCursorTwo : Obligations.StepAtCursorTwo := by
  rintro s b rest hc ⟨ckw, flw, -⟩ hq h
  refine ⟨.waiting, ?_⟩
  rw [exec_step_eq, decoderStep_two hq hc h, ckw, flw, highByte_mod_sixteen]

end Sys2Proof.Machine
end

section
/-!
What leaves the decoder's registers alone (40_decoder.md R115).
-/
namespace Sys2Proof.Machine

theorem SameDecoder.refl (s : State) : SameDecoder s s := ⟨rfl, rfl, rfl, rfl, rfl, rfl, rfl⟩

@[simp] theorem sameDecoder_receive {s t : State} (bs : List Byte) : SameDecoder s (receive bs t) ↔ SameDecoder s t :=
  Iff.rfl

@[simp] theorem sameDecoder_advanceClock {s t : State} (ms : Nat) :
    SameDecoder s (advanceClock ms t) ↔ SameDecoder s t := Iff.rfl

/-- The pending inputs are no register of the decoder. -/
@[simp] theorem sameDecoder_inbox {s t : State} (ps : List Input) :
    SameDecoder { s with inbox := ps } t ↔ SameDecoder s t := Iff.rfl

/-- Settles O31: of the inputs a step can perform, only a STEP and a reset do not leave the decoder as it was. -/
theorem decoderChangesOnlyByStepOrReset : Obligations.DecoderChangesOnlyByStepOrReset := by
  constructor
  · intro s t hstep changed
    obtain ⟨-, -, ⟨-, rfl⟩ | ⟨w, arriving, rest, i, pending, hd, rfl⟩ | ⟨bytes, rest, -, rfl⟩ |
      ⟨concurrent, rest, pending, -⟩ | ⟨ms, rest, -, rfl⟩⟩ := step_next_iff.1 hstep
    · exact absurd (SameDecoder.refl _) changed
    · by_cases isStep : i = .step
      · subst isStep
        have same := (sameDecoder_receive arriving).2 (SameDecoder.refl (decoderStep { s with inbox := rest }))
        exact .inl ⟨w, arriving, rest, pending, hd, _, exec_step_eq _, same⟩
      · have same := (execNext_command isStep { s with inbox := rest }).1
        exact absurd ((sameDecoder_receive arriving).2 ((sameDecoder_inbox rest).1 same)) changed
    · exact absurd ((sameDecoder_receive bytes).2 (SameDecoder.refl s)) changed
    · exact .inr ⟨concurrent, rest, pending⟩
    · exact absurd ((sameDecoder_advanceClock ms).2 (SameDecoder.refl s)) changed
  · intro i s command
    exact ⟨_, exec_eq i s, (execNext_command command s).1⟩

end Sys2Proof.Machine
end

section
/-!
The command operations: the LUT row each sends, and that none touches the decoder (41_command.md R145 to R150).
-/
namespace Sys2Proof.Machine

theorem sendRow_eq (r : Fin 5) (s : State) : sendRow r s = { s with txlog := s.txlog ++ [lutRead s.cfg r] } := rfl

theorem writeMode_eq (m : Mode) (s : State) : writeMode m s = { s with mode := m } := rfl

/-- Settles O35: the next state of CMD.SLEEP is `sendRow` at selector 0. -/
theorem sleepSendsRowZero : Obligations.SleepSendsRowZero := by
  refine ⟨decode_encode .cmdSleep, fun s => ?_⟩
  rw [exec_eq, execNext, sendRow_eq, sleepRow]

/-- Settles O36: the next state of CMD.WAKE is `sendRow` at selector 1. -/
theorem wakeSendsRowOne : Obligations.WakeSendsRowOne := by
  refine ⟨decode_encode .cmdWake, fun s => ?_⟩
  rw [exec_eq, execNext, sendRow_eq, wakeRow]

/-- Settles O37: CMD.ACTIVE is `sendRow` at selector 2, whatever the mode, and then the write of `mode`. -/
theorem activeSendsRowTwoAndRecordsActive : Obligations.ActiveSendsRowTwoAndRecordsActive := by
  refine ⟨decode_encode .cmdActive, fun s => ?_⟩
  rw [exec_eq, execNext, writeMode_eq, sendRow_eq, activeRow]

/-- Settles O38: CMD.PASSIVE is `sendRow` at selector 3, whatever the mode, and then the write of `mode`. -/
theorem passiveSendsRowThreeAndRecordsPassive : Obligations.PassiveSendsRowThreeAndRecordsPassive := by
  refine ⟨decode_encode .cmdPassive, fun s => ?_⟩
  rw [exec_eq, execNext, writeMode_eq, sendRow_eq, passiveRow]

/-- Settles O39: CMD.REQREAD branches on the recorded mode. -/
theorem reqreadSendsRowFourOnlyInPassiveMode : Obligations.ReqreadSendsRowFourOnlyInPassiveMode := by
  refine ⟨decode_encode .cmdReqread, fun s => ⟨fun passive => ?_, fun active => ?_⟩⟩
  · rw [exec_eq, execNext, if_pos passive, sendRow_eq, reqreadRow]
  · rw [exec_eq, execNext, if_neg (by simp [active])]

/-- R150: what a command does with `mode` and `txlog` is a function of the parameters, `mode` and `txlog`. -/
theorem execNext_command_congr {i : Instr} {s s' : State} (command : i ≠ .step) (cfg : s'.cfg = s.cfg)
    (mode : s'.mode = s.mode) (txlog : s'.txlog = s.txlog) :
    (execNext i s').mode = (execNext i s).mode ∧ (execNext i s').txlog = (execNext i s).txlog := by
  cases i with
  | step => contradiction
  | cmdSleep | cmdWake | cmdActive | cmdPassive => simp [execNext, cfg, mode, txlog]
  | cmdReqread => by_cases passive : s.mode = .passive <;> simp [execNext, cfg, mode, txlog, passive]

/-- Settles O40: `execNext_command` has what a command leaves alone, `execNext_command_congr` what it depends on. -/
theorem commandsIgnoreTheDecoder : Obligations.CommandsIgnoreTheDecoder := by
  intro i s s' t t' command hs hs'
  obtain rfl : execNext i s = t := by simpa using hs
  obtain rfl : execNext i s' = t' := by simpa using hs'
  obtain ⟨decoder, -, rxq, -⟩ := execNext_command command s
  exact ⟨⟨decoder, rxq⟩, execNext_command_congr command⟩

end Sys2Proof.Machine
end

section
/-!
The rows of the command LUT: every row is the template with per-command bytes of its own (41_command.md R141, R142).
-/
namespace Sys2Proof.Machine

/-- The rows with the template's fixed bytes are exactly those built from the template and three bytes. -/
theorem fixedBytesOk_iff_exists_commandRow {template row : Frame} :
    fixedBytesOk template row = true ↔ ∃ op var ck : Byte, row = commandRow template op var ck := by
  refine ⟨fun fixed => ⟨row.getD 4 0, row.getD 7 0, row.getD 15 0, List.ext_getElem? fun j => ?_⟩, ?_⟩
  · obtain ⟨len, get⟩ := fixedBytesOk_iff.1 fixed
    by_cases perCommand : j = 4 ∨ j = 7 ∨ j = 15
    · rcases lt_or_ge j template.length with inside | outside
      · have inRow : j < row.length := len ▸ inside
        rcases perCommand with rfl | rfl | rfl <;> simp [commandRow, inside, inRow]
      · rw [List.getElem?_eq_none (len ▸ outside), List.getElem?_eq_none (by simpa using outside)]
    · obtain ⟨h4, h7, h15⟩ : j ≠ 4 ∧ j ≠ 7 ∧ j ≠ 15 := by simpa using perCommand
      rw [commandRow_get _ _ _ _ h4 h7 h15, get j h4 h7 h15]
  · rintro ⟨op, var, ck, rfl⟩
    exact fixedBytesOk_commandRow template op var ck

/-- R141: a row of the built-in table has the fixed bytes by its form, a row of a named table by the check. -/
theorem lutRead_fixedBytesOk {c : Config} (legal : configOk c = true) (r : Fin 5) :
    fixedBytesOk c.cmdTemplate (lutRead c r) = true := by
  cases lut : c.cmdLut with
  | builtIn =>
    rw [lutRead, lut]
    exact fixedBytesOk_commandRow ..
  | table rows more =>
    have noError := configOk_lut legal
    rw [lutError, lut] at noError
    have member : rows[r] ∈ rows.toList ++ more := by simp
    rw [lutRead, lut]
    exact ((rowsError_none _ 0).1 (check_none.1 noError).2 _ member).1

theorem commandRow_sourceTemplate (op var ck : Byte) : commandRow Config.sourceTemplate op var ck =
    [0x33, 0x3E, 0x00, 0x0C, op, 0x00, 0x00, var, 0x00, 0x00, 0x00, 0x00, 0x00, 0x00, 0x01, ck] := rfl

/-- Settles O42: every row is built from the template, which is the source's. -/
theorem rowsCarryTheFixedBytes : Obligations.RowsCarryTheFixedBytes := by
  intro c r legal template
  obtain ⟨op, var, ck, row⟩ := fixedBytesOk_iff_exists_commandRow.1 (lutRead_fixedBytesOk legal r)
  exact ⟨op, var, ck, by rw [row, template, commandRow_sourceTemplate]⟩

end Sys2Proof.Machine
end

section
/-!
What one STEP can do, said once as an inductive relation (40_decoder.md R100 to R112, with the ends of an attempt of R114):
one constructor per branch of a transition, with the whole next state. No constructor speaks of the cursor's width: a
legal configuration (R119) and the cursor's place in the frame (R21) keep every cursor below it.
-/
namespace Sys2Proof.Machine

theorem exec_step_next_iff {s t : State} : exec .step s = .next t ↔ t = decoderStep s := by
  rw [exec_step_eq, Host.Outcome.next.injEq, eq_comm]

/-- R106, an accepted length. -/
theorem decoderStep_three_of_accepted {s : State} {b : Byte} {rest : List Byte} (hq : s.rxq = b :: rest)
    (hc : configOk s.cfg = true) (h : s.cursor = 3)
    (acc : accepted s.cfg ((s.frameLen ||| b.toNat) % 2 ^ s.cfg.frameLenWidth) = true) :
    decoderStep s =
      { s with
        ok := .waiting, rxq := rest, frameLen := (s.frameLen ||| b.toNat) % 2 ^ s.cfg.frameLenWidth,
        sumAcc := (s.sumAcc + b.toNat) % 2 ^ s.cfg.checksumWidth, cursor := 4 } := by
  have header := configOk_header hc
  rw [decoderStep_cons hq, consumeByte_three (by exact h)]
  simp only [lengthLowByte, lengthAccepted, writeFrameLen, zext, acc, if_true]
  rw [advanceCursor_eq (by simp only [addToSum_cursor, addToSum_cfg]; omega)]
  simp only [addToSum, writeSum, zext, h]

/-- The next states a STEP can lead to, from a cursor that has its place in a frame. -/
inductive DecoderMove (s : State) : State → Prop
  /-- R102 -/
  | noByte (hq : s.rxq = []) : DecoderMove s { s with ok := .waiting }
  /-- R103 -/
  | start1 {b : Byte} {rest : List Byte} (hq : s.rxq = b :: rest) (h : s.cursor = 0) (hb : b = s.cfg.start1) :
      DecoderMove s
        { s with ok := .waiting, rxq := rest, sumAcc := b.toNat % 2 ^ s.cfg.checksumWidth, cursor := 1 }
  /-- R103: any other byte is dropped -/
  | notStart1 {b : Byte} {rest : List Byte} (hq : s.rxq = b :: rest) (h : s.cursor = 0) (hb : b ≠ s.cfg.start1) :
      DecoderMove s { s with ok := .waiting, rxq := rest }
  /-- R104 -/
  | start2 {b : Byte} {rest : List Byte} (hq : s.rxq = b :: rest) (h : s.cursor = 1) (hb : b = s.cfg.start2) :
      DecoderMove s
        { s with
          ok := .waiting, rxq := rest, sumAcc := (s.sumAcc + b.toNat) % 2 ^ s.cfg.checksumWidth, cursor := 2 }
  /-- R104: any other byte resynchronises -/
  | notStart2 {b : Byte} {rest : List Byte} (hq : s.rxq = b :: rest) (h : s.cursor = 1) (hb : b ≠ s.cfg.start2) :
      DecoderMove s { s with ok := .waiting, rxq := rest, cursor := 0 }
  /-- R105 -/
  | lengthHigh {b : Byte} {rest : List Byte} (hq : s.rxq = b :: rest) (h : s.cursor = 2) :
      DecoderMove s
        { s with
          ok := .waiting, rxq := rest, sumAcc := (s.sumAcc + b.toNat) % 2 ^ s.cfg.checksumWidth,
          frameLen := 256 * b.toNat % 2 ^ s.cfg.frameLenWidth, cursor := 3 }
  /-- R106 -/
  | lengthLow {b : Byte} {rest : List Byte} (hq : s.rxq = b :: rest) (h : s.cursor = 3)
      (acc : accepted s.cfg ((s.frameLen ||| b.toNat) % 2 ^ s.cfg.frameLenWidth) = true) :
      DecoderMove s
        { s with
          ok := .waiting, rxq := rest, frameLen := (s.frameLen ||| b.toNat) % 2 ^ s.cfg.frameLenWidth,
          sumAcc := (s.sumAcc + b.toNat) % 2 ^ s.cfg.checksumWidth, cursor := 4 }
  /-- R106: a length that is not accepted resynchronises and is kept (D9) -/
  | lengthRejected {b : Byte} {rest : List Byte} (hq : s.rxq = b :: rest) (h : s.cursor = 3)
      (rejected : accepted s.cfg ((s.frameLen ||| b.toNat) % 2 ^ s.cfg.frameLenWidth) = false) :
      DecoderMove s
        { s with
          ok := .waiting, rxq := rest, frameLen := (s.frameLen ||| b.toNat) % 2 ^ s.cfg.frameLenWidth, cursor := 0 }
  /-- R112 -/
  | payload {b : Byte} {rest : List Byte} (hq : s.rxq = b :: rest) (h4 : 4 ≤ s.cursor)
      (h : s.cursor ≤ s.frameLen + 1) :
      DecoderMove s
        { s with
          ok := .waiting, rxq := rest, sumAcc := (s.sumAcc + b.toNat) % 2 ^ s.cfg.checksumWidth,
          cursor := s.cursor + 1,
          buf := if s.cursor - 4 < s.cfg.payloadCap then s.buf.set (s.cursor - 4) b else s.buf }
  /-- R109 -/
  | checksumHigh {b : Byte} {rest : List Byte} (hq : s.rxq = b :: rest) (h4 : 4 ≤ s.cursor)
      (h : s.cursor = s.frameLen + 2) :
      DecoderMove s
        { s with
          ok := .waiting, rxq := rest, rxSum := 256 * b.toNat % 2 ^ s.cfg.checksumWidth, cursor := s.frameLen + 3 }
  /-- R110, R111: the checksums match -/
  | success {b : Byte} {rest : List Byte} (hq : s.rxq = b :: rest) (h4 : 4 ≤ s.cursor)
      (h : s.cursor = s.frameLen + 3) (hm : (s.rxSum ||| b.toNat) % 2 ^ s.cfg.checksumWidth = s.sumAcc) :
      DecoderMove s
        { s with
          rxq := rest, rxSum := (s.rxSum ||| b.toNat) % 2 ^ s.cfg.checksumWidth, cursor := 0, ok := .ok,
          record := fieldsOfBuffer s.buf }
  /-- R110: the checksums differ -/
  | mismatch {b : Byte} {rest : List Byte} (hq : s.rxq = b :: rest) (h4 : 4 ≤ s.cursor)
      (h : s.cursor = s.frameLen + 3) (hm : (s.rxSum ||| b.toNat) % 2 ^ s.cfg.checksumWidth ≠ s.sumAcc) :
      DecoderMove s
        { s with
          rxq := rest, rxSum := (s.rxSum ||| b.toNat) % 2 ^ s.cfg.checksumWidth, cursor := 0, ok := .waiting }

/-- The cursor register holds the last position of a frame that is being received (R119). -/
theorem CursorInv.lastCursor_lt {s : State} (hcur : CursorInv s) (hc : configOk s.cfg = true) (h4 : 4 ≤ s.cursor) :
    s.frameLen + 3 < 2 ^ s.cfg.cursorWidth := by
  obtain header | ⟨acc, -, -⟩ := hcur
  · omega
  · exact (configOk_accepted hc acc).2

/-- A STEP makes one of the moves. -/
theorem decoderStep_move {s : State} (hc : configOk s.cfg = true) (hcur : CursorInv s) :
    DecoderMove s (decoderStep s) := by
  obtain empty | ⟨b, rest, hq⟩ := rxq_cases s
  · rw [decoderStep_nil empty]; exact .noByte empty
  have places : s.cursor = 0 ∨ s.cursor = 1 ∨ s.cursor = 2 ∨ s.cursor = 3 ∨ (4 ≤ s.cursor ∧
      (s.cursor ≤ s.frameLen + 1 ∨ s.cursor = s.frameLen + 2 ∨ s.cursor = s.frameLen + 3)) := by
    obtain header | ⟨-, h4, last⟩ := hcur <;> omega
  obtain h | h | h | h | ⟨h4, h | h | h⟩ := places
  · rw [decoderStep_zero hq hc h]
    split
    case isTrue hb => exact .start1 hq h hb
    case isFalse hb => exact .notStart1 hq h hb
  · rw [decoderStep_one hq hc h]
    split
    case isTrue hb => exact .start2 hq h hb
    case isFalse hb => exact .notStart2 hq h hb
  · rw [decoderStep_two hq hc h]; exact .lengthHigh hq h
  · cases acc : accepted s.cfg ((s.frameLen ||| b.toNat) % 2 ^ s.cfg.frameLenWidth) with
    | true => rw [decoderStep_three_of_accepted hq hc h acc]; exact .lengthLow hq h acc
    | false => rw [decoderStep_three_of_not_accepted hq h acc]; exact .lengthRejected hq h acc
  · have last := hcur.lastCursor_lt hc h4
    rw [decoderStep_payload hq (by omega) h4 h]; exact .payload hq h4 h
  · rw [decoderStep_checksumHigh hq (hcur.lastCursor_lt hc h4) h4 h]; exact .checksumHigh hq h4 h
  · rw [decoderStep_checksumLow hq h4 h]
    split
    case isTrue hm => exact .success hq h4 h hm
    case isFalse hm => exact .mismatch hq h4 h hm

/-- The move is the STEP's: there is one next state. -/
theorem DecoderMove.decoderStep_eq {s t : State} (hc : configOk s.cfg = true) (hcur : CursorInv s)
    (move : DecoderMove s t) : decoderStep s = t := by
  cases move with
  | noByte hq => rw [decoderStep_nil hq]
  | start1 hq h hb => rw [decoderStep_zero hq hc h, if_pos hb]
  | notStart1 hq h hb => rw [decoderStep_zero hq hc h, if_neg hb]
  | start2 hq h hb => rw [decoderStep_one hq hc h, if_pos hb]
  | notStart2 hq h hb => rw [decoderStep_one hq hc h, if_neg hb]
  | lengthHigh hq h => rw [decoderStep_two hq hc h]
  | lengthLow hq h acc => rw [decoderStep_three_of_accepted hq hc h acc]
  | lengthRejected hq h rejected => rw [decoderStep_three_of_not_accepted hq h rejected]
  | payload hq h4 h =>
    have last := hcur.lastCursor_lt hc h4
    rw [decoderStep_payload hq (by omega) h4 h]
  | checksumHigh hq h4 h => rw [decoderStep_checksumHigh hq (hcur.lastCursor_lt hc h4) h4 h]
  | success hq h4 h hm => rw [decoderStep_checksumLow hq h4 h, if_pos hm]
  | mismatch hq h4 h hm => rw [decoderStep_checksumLow hq h4 h, if_neg hm]

/-- The cursor has its place in a frame after every move (R21). -/
theorem DecoderMove.cursorInv {s t : State} (move : DecoderMove s t) (hc : configOk s.cfg = true)
    (hcur : CursorInv s) : CursorInv t := by
  have acc (h4 : 4 ≤ s.cursor) : accepted s.cfg s.frameLen = true :=
    hcur.elim (fun header => absurd h4 (by omega)) (·.1)
  cases move with
  | noByte _ | notStart1 _ _ _ => exact hcur
  | start1 _ _ _ | start2 _ _ _ | notStart2 _ _ _ | lengthHigh _ _ | lengthRejected _ _ _ | success _ _ _ _
  | mismatch _ _ _ _ => left; dsimp only; omega
  | lengthLow _ _ accLen =>
    have two := (configOk_accepted hc accLen).1
    exact .inr ⟨accLen, le_rfl, by dsimp only; omega⟩
  | payload _ h4 _ => exact .inr ⟨acc h4, by dsimp only; omega, by dsimp only; omega⟩
  | checksumHigh _ h4 _ => exact .inr ⟨acc h4, by dsimp only; omega, le_rfl⟩

end Sys2Proof.Machine
end

section
/-!
What every step keeps: a property of all operations, of the environment's actions and of reset, that does not speak of
the pending inputs, is kept by every step. The invariant of 10_state.md R20 to R27, and the bound of 40_decoder.md R113.
-/
namespace Sys2Proof.Machine

/-- Every step keeps what all inputs keep, whatever is pending. -/
theorem step_keeps {P : State → Prop} (inbox : ∀ s ps, P s → P { s with inbox := ps })
    (ops : ∀ i s, P s → P (execNext i s)) (rx : ∀ bs s, P s → P (receive bs s)) (reset : ∀ s, P s → P (resetBlock s))
    (tick : ∀ ms s, P s → P (advanceClock ms s)) {s t : State} (hs : P s) (hstep : step s = .next t) : P t := by
  obtain ⟨-, -, ⟨-, rfl⟩ | ⟨w, arriving, rest, i, -, -, rfl⟩ | ⟨bs, rest, -, rfl⟩ | ⟨c, rest, -, rfl⟩ |
    ⟨ms, rest, -, rfl⟩⟩ := step_next_iff.1 hstep
  · exact hs
  · exact rx _ _ (ops _ _ (inbox _ _ hs))
  · exact rx _ _ (inbox _ _ hs)
  · exact reset _ (inbox _ _ hs)
  · exact tick _ _ (inbox _ _ hs)

theorem State.Inv.move {s : State} (inv : s.Inv) : DecoderMove s (decoderStep s) :=
  decoderStep_move inv.config inv.cursor

/-- What a register is cut to fits it. -/
theorem mod_width_lt (v w : Nat) : v % 2 ^ w < 2 ^ w := Nat.mod_lt _ (Nat.two_pow_pos w)

theorem DecoderMove.inv {s t : State} (move : DecoderMove s t) (inv : s.Inv) : t.Inv := by
  have cursor := move.cursorInv inv.config inv.cursor
  have header := configOk_header inv.config
  have last := inv.lastCursor_lt
  cases move with
  | noByte _ | notStart1 _ _ _ => exact { inv with cursor := cursor }
  | start1 _ _ _ | start2 _ _ _ =>
    exact { inv with cursor := cursor, cursorWidth := by dsimp only; omega, sumWidth := mod_width_lt _ _ }
  | notStart2 _ _ _ => exact { inv with cursor := cursor, cursorWidth := Nat.two_pow_pos _ }
  | lengthHigh _ _ =>
    exact { inv with
      cursor := cursor, cursorWidth := by dsimp only; omega, sumWidth := mod_width_lt _ _,
      frameLenWidth := mod_width_lt _ _ }
  | lengthLow _ _ _ =>
    exact { inv with
      cursor := cursor, cursorWidth := by dsimp only; omega, sumWidth := mod_width_lt _ _,
      frameLenWidth := mod_width_lt _ _ }
  | lengthRejected _ _ _ =>
    exact { inv with cursor := cursor, cursorWidth := Nat.two_pow_pos _, frameLenWidth := mod_width_lt _ _ }
  | payload _ h4 h =>
    have fits : s.cursor + 1 < 2 ^ s.cfg.cursorWidth := by have := last h4; omega
    have length (n : Nat) (b : Byte) : (if n < s.cfg.payloadCap then s.buf.set n b else s.buf).length =
        s.cfg.payloadCap := by split <;> simp [inv.bufLength]
    exact { inv with cursor := cursor, cursorWidth := fits, sumWidth := mod_width_lt _ _, bufLength := length _ _ }
  | checksumHigh _ h4 _ => exact { inv with cursor := cursor, cursorWidth := last h4, rxWidth := mod_width_lt _ _ }
  | success _ _ _ _ =>
    have fields : (fieldsOfBuffer s.buf).length = s.cfg.nFields := by
      rw [fieldsOfBuffer_length, inv.bufLength, configOk_payloadCap inv.config]; omega
    exact { inv with
      cursor := cursor, cursorWidth := Nat.two_pow_pos _, rxWidth := mod_width_lt _ _, recordLength := fields }
  | mismatch _ _ _ _ =>
    exact { inv with cursor := cursor, cursorWidth := Nat.two_pow_pos _, rxWidth := mod_width_lt _ _ }

theorem State.Inv.decoderStep {s : State} (inv : s.Inv) : (decoderStep s).Inv := inv.move.inv inv

theorem State.Inv.writeMode {s : State} (inv : s.Inv) (m : Mode) : (writeMode m s).Inv := { inv with }

theorem State.Inv.receive {s : State} (inv : s.Inv) (bs : List Byte) : (receive bs s).Inv := { inv with }

theorem State.Inv.setInbox {s : State} (inv : s.Inv) (ps : List Input) : ({ s with inbox := ps } : State).Inv :=
  { inv with }

theorem State.Inv.advanceClock {s : State} (inv : s.Inv) (ms : Nat) : (advanceClock ms s).Inv :=
  { inv with clockWidth := mod_width_lt _ _ }

theorem State.Inv.resetBlock {s : State} (inv : s.Inv) : (resetBlock s).Inv :=
  { inv with
    cursor := .inl (Nat.zero_le _), cursorWidth := Nat.two_pow_pos _, frameLenWidth := Nat.two_pow_pos _,
    sumWidth := Nat.two_pow_pos _, rxWidth := Nat.two_pow_pos _, bufLength := List.length_replicate,
    recordLength := List.length_replicate }

theorem lutRead_length {c : Config} (legal : configOk c = true) (r : Fin 5) :
    (lutRead c r).length = c.cmdFrameLen := by
  rw [(fixedBytesOk_iff.1 (lutRead_fixedBytesOk legal r)).1, (configOk_template legal).2]

theorem State.Inv.sendRow {s : State} (inv : s.Inv) (r : Fin 5) : (sendRow r s).Inv := by
  refine { inv with wholeFrames := fun f hf => ?_ }
  obtain sent | rfl : f ∈ s.txlog ∨ f = lutRead s.cfg r := by simpa using hf
  · exact inv.wholeFrames f sent
  · exact lutRead_length inv.config r

theorem State.Inv.execNext {s : State} (inv : s.Inv) (i : Instr) : (execNext i s).Inv := by
  cases i with
  | step => exact inv.decoderStep
  | cmdSleep | cmdWake => exact inv.sendRow _
  | cmdActive | cmdPassive => exact (inv.sendRow _).writeMode _
  | cmdReqread =>
    rw [Machine.execNext]
    split
    · exact inv.sendRow _
    · exact inv

/-- Settles O15: every move of the decoder keeps the invariant, a command adds a whole row to `txlog`, and reset and the
environment's actions keep it field by field. -/
theorem stepKeepsTheInvariant : Obligations.StepKeepsTheInvariant := fun _ _ inv hstep =>
  step_keeps (P := State.Inv) (fun _ ps inv => inv.setInbox ps) (fun i _ inv => inv.execNext i)
    (fun bs _ inv => inv.receive bs) (fun _ inv => inv.resetBlock) (fun ms _ inv => inv.advanceClock ms) inv hstep

end Sys2Proof.Machine
end

section
/-!
The bound on the running sum with the source's start bytes, lengths and sizes (40_decoder.md R113), and what it says of a
matching checksum.
-/
namespace Sys2Proof.Machine

/-- With the source's framing, the lengths that can be accepted (R6). -/
theorem SourceFraming.accepted_eq {c : Config} (framing : SourceFraming c) {len : Nat}
    (acc : accepted c len = true) : len = 28 ∨ len = 12 := by
  obtain ⟨-, -, short, long, -⟩ := framing
  obtain h | ⟨-, h⟩ := accepted_eq_true.1 acc <;> omega

/-! The bound, by the cursor's position. -/

theorem sumBounded_of_cursor_zero {s : State} (h : s.cursor = 0) (le : s.sumAcc ≤ 0x1A71) : SumBounded s := by
  refine ⟨le, ?_, ?_, ?_, ?_, ?_⟩ <;> omega

theorem sumBounded_of_cursor_one {s : State} (h : s.cursor = 1) (sum : s.sumAcc = 0x32) : SumBounded s := by
  refine ⟨?_, ?_, ?_, ?_, ?_, ?_⟩ <;> omega

theorem sumBounded_of_cursor_two {s : State} (h : s.cursor = 2) (sum : s.sumAcc = 0x6F) : SumBounded s := by
  refine ⟨?_, ?_, ?_, ?_, ?_, ?_⟩ <;> omega

theorem sumBounded_of_cursor_three {s : State} (h : s.cursor = 3) (hi : Byte) (len : s.frameLen = 256 * hi.toNat)
    (sum : s.sumAcc = 0x6F + hi.toNat) : SumBounded s := by
  have := hi.isLt
  refine ⟨?_, ?_, ?_, fun _ => ⟨hi, len, sum⟩, ?_, ?_⟩ <;> omega

/-- Beyond the header, the bound of the one length the frame has. -/
theorem sumBounded_of_four_le {s : State} (h4 : 4 ≤ s.cursor)
    (sum : (s.frameLen = 28 ∧ s.sumAcc ≤ 0x8B + 0xFF * min (s.cursor - 4) 26) ∨
      (s.frameLen = 12 ∧ s.sumAcc ≤ 0x7B + 0xFF * min (s.cursor - 4) 10)) : SumBounded s := by
  refine ⟨?_, ?_, ?_, ?_, ?_, ?_⟩ <;> omega

theorem SumBounded.of_four_le {s : State} (bounded : SumBounded s) (h4 : 4 ≤ s.cursor)
    (len : s.frameLen = 28 ∨ s.frameLen = 12) :
    (s.frameLen = 28 ∧ s.sumAcc ≤ 0x8B + 0xFF * min (s.cursor - 4) 26) ∨
      (s.frameLen = 12 ∧ s.sumAcc ≤ 0x7B + 0xFF * min (s.cursor - 4) 10) := by
  obtain ⟨-, -, -, -, long, short⟩ := bounded
  exact len.imp (fun h => ⟨h, long h4 h⟩) (fun h => ⟨h, short h4 h⟩)

/-- An accepted length with this high byte, or-ed with the low byte, has the sum of its two bytes: the high byte is 0. -/
theorem length_bytes_sum {hi lo : Byte} (len : 256 * hi.toNat ||| lo.toNat = 28 ∨ 256 * hi.toNat ||| lo.toNat = 12) :
    256 * hi.toNat ||| lo.toNat = hi.toNat + lo.toNat := by
  have pair := shl8_or_zext hi lo
  simp only [shl8, zext, Nat.mul_comm _ 256] at pair
  rw [pair] at len ⊢
  omega

theorem DecoderMove.sumBounded {s t : State} (move : DecoderMove s t) (inv : s.Inv) (framing : SourceFraming s.cfg)
    (bounded : SumBounded s) : SumBounded t := by
  obtain ⟨start1, start2, -, -, ckw, flw, -⟩ := id framing
  obtain ⟨le, one, two, three, -⟩ := id bounded
  have beyond (h4 : 4 ≤ s.cursor) := bounded.of_four_le h4 (framing.accepted_eq (inv.frameLen_accepted h4))
  cases move with
  | noByte _ | notStart1 _ _ _ => exact bounded
  | notStart2 _ _ _ | lengthRejected _ _ _ | success _ _ _ _ | mismatch _ _ _ _ =>
    exact sumBounded_of_cursor_zero rfl le
  | start1 hq h hb =>
    refine sumBounded_of_cursor_one rfl ?_
    rw [hb, start1, ckw]; rfl
  | start2 hq h hb =>
    refine sumBounded_of_cursor_two rfl ?_
    rw [hb, start2, ckw, one h]; rfl
  | @lengthHigh b _ hq h =>
    have := b.isLt
    refine sumBounded_of_cursor_three rfl b ?_ ?_
    · rw [flw, highByte_mod_sixteen]
    · rw [ckw, two h]; dsimp only; omega
  | @lengthLow b _ hq h acc =>
    obtain ⟨hi, len, sum⟩ := three h
    have hiLt := hi.isLt
    have loLt := b.isLt
    have frameLen : (s.frameLen ||| b.toNat) % 2 ^ s.cfg.frameLenWidth = 256 * hi.toNat ||| b.toNat := by
      rw [flw, or_byte_mod_sixteen (by omega), len]
    rw [frameLen] at acc
    have source := framing.accepted_eq acc
    have total := length_bytes_sum source
    refine sumBounded_of_four_le le_rfl ?_
    dsimp only
    rw [frameLen, ckw, sum]
    omega
  | @payload b _ hq h4 h =>
    have := b.isLt
    refine sumBounded_of_four_le (by dsimp only; omega) ?_
    dsimp only
    rw [ckw]
    have := beyond h4
    omega
  | checksumHigh hq h4 h =>
    refine sumBounded_of_four_le (by dsimp only; omega) ?_
    dsimp only
    have := beyond h4
    omega

/-- A command changes neither the decoder nor the parameters, of which the bound speaks. -/
theorem SumBounded.of_sameDecoder {s t : State} (bounded : SumBounded s) (same : SameDecoder s t) : SumBounded t := by
  obtain ⟨cursor, frameLen, sumAcc, -⟩ := same
  rw [SumBounded, cursor, frameLen, sumAcc]
  exact bounded

theorem SumBounded.execNext {s : State} (bounded : SumBounded s) (inv : s.Inv) (framing : SourceFraming s.cfg)
    (i : Instr) : SumBounded (execNext i s) := by
  by_cases command : i = .step
  · rw [command]; exact inv.move.sumBounded inv framing bounded
  · exact bounded.of_sameDecoder (execNext_command command s).1

/-- R113's bound with what it rests on. -/
def BoundedInv (s : State) : Prop := s.Inv ∧ SourceFraming s.cfg ∧ SumBounded s

/-- Settles O47: the bound and what it rests on are kept together; a move to the next position adds at most one byte to
the sum, every other move ends the attempt or leaves the sum alone. -/
theorem stepKeepsTheSumBound : Obligations.StepKeepsTheSumBound := by
  intro s t inv framing bounded hstep
  refine (step_keeps (P := BoundedInv) ?_ ?_ ?_ ?_ ?_ ⟨inv, framing, bounded⟩ hstep).2.2
  · exact fun s ps ⟨inv, framing, bounded⟩ => ⟨inv.setInbox ps, framing, bounded⟩
  · exact fun i s ⟨inv, framing, bounded⟩ =>
      ⟨inv.execNext i, by rwa [execNext_cfg], bounded.execNext inv framing i⟩
  · exact fun bs s ⟨inv, framing, bounded⟩ => ⟨inv.receive bs, framing, bounded⟩
  · exact fun s ⟨inv, framing, _⟩ => ⟨inv.resetBlock, framing, sumBounded_of_cursor_zero rfl (Nat.zero_le _)⟩
  · exact fun ms s ⟨inv, framing, bounded⟩ => ⟨inv.advanceClock ms, framing, bounded⟩

/-- Settles O48: a matching checksum is the sum, at the position where the bound counts every payload byte. -/
theorem checksumAboveTheBoundNeverMatches : Obligations.ChecksumAboveTheBoundNeverMatches := by
  intro s t inv framing bounded hs hok
  obtain rfl := exec_step_next_iff.1 hs
  have move := inv.move
  generalize decoderStep s = t at move hok
  cases move with
  | success hq h4 h hm =>
    have len := framing.accepted_eq (inv.frameLen_accepted h4)
    have bound := bounded.of_four_le h4 len
    dsimp only
    rw [hm]
    exact ⟨by omega, by omega, len⟩
  | _ => exact absurd hok (by simp)

end Sys2Proof.Machine
end

section
/-!
The operation words (30_encoding.md R70 to R74): decoder, encoder and field layout, and sequences of words.
-/
namespace Sys2Proof.Machine

/-- Settles O1: the words of R73 are the encodings of their operations. -/
theorem operationWordsDecode : Obligations.OperationWordsDecode :=
  ⟨decode_encode .step, decode_encode .cmdSleep, decode_encode .cmdWake, decode_encode .cmdActive,
    decode_encode .cmdPassive, decode_encode .cmdReqread⟩

/-- The operation map has one word for each operation (R73): of the 256 words, each that decodes is the encoding of what
it decodes to. -/
theorem decode_eq_some_iff {w : Byte} {i : Instr} : decode w = some i ↔ w = encode i := by
  have ownWord : ∀ w : Byte, ((decode w).all fun i => w == encode i) = true := by decide
  constructor
  · intro h
    simpa [h] using ownWord w
  · rintro rfl
    exact decode_encode i

/-- Settles O2: `decode` is defined at the encodings alone. -/
theorem decodeInvertsEncode : Obligations.DecodeInvertsEncode :=
  ⟨fun i _ => decode_encode i, fun _ _ h => (decode_eq_some_iff.1 h).symm⟩

/-- Settles O3: the 256 words, one by one. -/
theorem reservedWordsDoNotDecode : Obligations.ReservedWordsDoNotDecode := by
  unfold Obligations.ReservedWordsDoNotDecode
  decide

/-- The three fields of R71 make up the word. -/
theorem wordOf_fieldsOf (w : Byte) : wordOf (fieldsOf w) = w := by
  rw [wordOf, fieldsOf, BitVec.extractLsb'_append_extractLsb'_eq_extractLsb' (by rfl),
    BitVec.extractLsb'_append_extractLsb'_eq_extractLsb' (by rfl)]
  exact BitVec.extractLsb'_eq_self

theorem fieldsOf_wordOf (f : OpFields) : fieldsOf (wordOf f) = f := by
  obtain ⟨cls, rsv, sel⟩ := f
  have hcls : (cls ++ rsv ++ sel).extractLsb' 4 4 = cls := by
    rw [BitVec.extractLsb'_append_eq_of_le (by omega)]
    exact BitVec.extractLsb'_append_eq_left
  have hrsv : (cls ++ rsv ++ sel).extractLsb' 3 1 = rsv := by
    rw [BitVec.extractLsb'_append_eq_of_le (by omega)]
    exact BitVec.extractLsb'_append_eq_right
  simp only [wordOf, fieldsOf, hcls, hrsv, BitVec.extractLsb'_append_eq_right]

/-- Settles O4: the legality of the fields is checked against the operation map for each of the 256 words; the layout is
a partition of the word's bits. -/
theorem fieldLayoutDecidesLegality : Obligations.FieldLayoutDecidesLegality := by
  have legal : ∀ w : Byte, (decode w).isSome = (fieldsOf w).wf := by decide
  exact ⟨fun w => ⟨legal w, wordOf_fieldsOf w⟩, fieldsOf_wordOf⟩

/-! Sequences of words: `decodeAll` by what its first word is. -/

theorem decodeAll_cons_encode (i : Instr) (ws : List Byte) :
    decodeAll (encode i :: ws) = (decodeAll ws).map (i :: ·) := by
  rw [decodeAll, decode_encode]
  cases decodeAll ws <;> rfl

theorem decodeAll_cons_reserved {w : Byte} (reserved : decode w = none) (ws : List Byte) :
    decodeAll (w :: ws) = .error (.reservedEncoding w) := by
  rw [decodeAll, reserved]

theorem decodeAll_map_encode (is : List Instr) : decodeAll (is.map encode) = .ok is := by
  induction is with
  | nil => rfl
  | cons i is ih => rw [List.map_cons, decodeAll_cons_encode, ih]; rfl

/-- A sequence of words is that of its operations, or it has a first reserved word (R74). -/
theorem words_cases (ws : List Byte) : (∃ is : List Instr, ws = is.map encode) ∨
    ∃ (is : List Instr) (w : Byte) (rest : List Byte), decode w = none ∧ ws = is.map encode ++ w :: rest := by
  induction ws with
  | nil => exact .inl ⟨[], rfl⟩
  | cons w ws ih =>
    cases hd : decode w with
    | none => exact .inr ⟨[], w, ws, hd, rfl⟩
    | some i =>
      obtain rfl := decode_eq_some_iff.1 hd
      obtain ⟨is, rfl⟩ | ⟨is, v, rest, reserved, rfl⟩ := ih
      · exact .inl ⟨i :: is, rfl⟩
      · exact .inr ⟨i :: is, v, rest, reserved, rfl⟩

theorem decodeAll_reserved (is : List Instr) {w : Byte} (reserved : decode w = none) (rest : List Byte) :
    decodeAll (is.map encode ++ w :: rest) = .error (.reservedEncoding w) := by
  induction is with
  | nil => exact decodeAll_cons_reserved reserved rest
  | cons i is ih => rw [List.map_cons, List.cons_append, decodeAll_cons_encode, ih]; rfl

/-- Settles O5: a sequence of words is the encoding of operations or has a first reserved word (`words_cases`, by
induction on the words), and what `decodeAll` answers is known in both cases. -/
theorem operationSequencesRoundTrip : Obligations.OperationSequencesRoundTrip := by
  refine ⟨fun is _ => decodeAll_map_encode is, fun ws is h => ?_, fun ws e h => ?_⟩
  · obtain ⟨is', rfl⟩ | ⟨is', w, rest, reserved, rfl⟩ := words_cases ws
    · rw [decodeAll_map_encode] at h
      cases h
      rfl
    · rw [decodeAll_reserved is' reserved] at h
      cases h
  · obtain ⟨is', rfl⟩ | ⟨is', w, rest, reserved, rfl⟩ := words_cases ws
    · rw [decodeAll_map_encode] at h
      cases h
    · rw [decodeAll_reserved is' reserved] at h
      cases h
      exact ⟨is', w, rest, rfl, reserved, rfl⟩

end Sys2Proof.Machine
end

section
/-!
What one STEP reports in its outputs (40_decoder.md R101, 60_exceptions.md R180 to R182), and the transitions at every size
of R5.
-/
namespace Sys2Proof.Machine

/-- Settles O20: R106's transition, whose two branches are those of `accepted`. -/
theorem stepAtCursorThree : Obligations.StepAtCursorThree := by
  intro s b rest hc hq h len ok
  refine ⟨.waiting, fun rejected => ?_, fun acc => ?_⟩
  · have rejected : accepted s.cfg len = false := Bool.eq_false_iff.2 (mt accepted_eq_true.1 rejected)
    rw [exec_step_eq, decoderStep_three_of_not_accepted hq h rejected]
  · rw [exec_step_eq, decoderStep_three_of_accepted hq hc h (accepted_eq_true.2 acc)]

/-- R111: a STEP changes the record only where it sets `ok`, and then to the buffer's fields. -/
theorem decoderStep_record (s : State) :
    ((decoderStep s).ok = .waiting ∧ (decoderStep s).record = s.record) ∨
    ((decoderStep s).ok = .ok ∧ (decoderStep s).record = fieldsOfBuffer s.buf) := by
  obtain empty | ⟨b, rest, hq⟩ := rxq_cases s
  · rw [decoderStep_nil empty]; exact .inl ⟨rfl, rfl⟩
  · rw [decoderStep_cons hq]; exact consumeByte_record b _ rfl

/-- R101, D5: every transition but that of the last byte leaves `ok` cleared. -/
theorem consumeByte_ok_of_not_last {b : Byte} {s : State} (cleared : s.ok = .waiting)
    (notLast : 4 ≤ s.cursor → s.cursor ≠ s.frameLen + 3) : (consumeByte b s).ok = .waiting := by
  apply consumeByte_cases (P := fun t => t.ok = .waiting) b s
  · intro; unfold firstStartByte; split <;> simp [cleared]
  · intro; unfold secondStartByte; split <;> simp [cleared]
  · intro; simp [lengthHighByte, cleared]
  · intro; simp only [lengthLowByte]; split <;> simp [cleared]
  · intros; simp [checksumHighByte, cleared]
  · exact fun h4 h => absurd h (notLast h4)
  · intros; simp [payloadByte, cleared]

/-- The STEP consumes a checksum low byte that completes a match (R110). -/
def CompletesMatch (s : State) : Prop :=
  ∃ (b : Byte) (rest : List Byte), s.rxq = b :: rest ∧ 4 ≤ s.cursor ∧ s.cursor = s.frameLen + 3 ∧
    (s.rxSum ||| b.toNat) % 2 ^ s.cfg.checksumWidth = s.sumAcc

theorem decoderStep_ok_iff (s : State) : (decoderStep s).ok = .ok ↔ CompletesMatch s := by
  constructor
  · intro hok
    obtain empty | ⟨b, rest, hq⟩ := rxq_cases s
    · simp [decoderStep_nil empty] at hok
    by_cases last : 4 ≤ s.cursor ∧ s.cursor = s.frameLen + 3
    · refine ⟨b, rest, hq, last.1, last.2, ?_⟩
      by_contra mismatch
      simp [decoderStep_checksumLow hq last.1 last.2, mismatch] at hok
    · rw [decoderStep_cons hq, consumeByte_ok_of_not_last rfl (by exact fun h4 h => last ⟨h4, h⟩)] at hok
      cases hok
  · rintro ⟨b, rest, hq, h4, h, hm⟩
    rw [decoderStep_checksumLow hq h4 h, if_pos hm]

/-- Settles O25: the checksum low byte's transition sets `ok` on a match, and every other one leaves it cleared. -/
theorem okReportsThisStep : Obligations.OkReportsThisStep := by
  intro s t hs
  rw [exec_step_next_iff.1 hs]
  exact decoderStep_ok_iff s

theorem stepReport_success_iff {s : State} : stepReport s = .success ↔ CompletesMatch s := by
  constructor
  · intro report
    obtain empty | ⟨b, rest, hq⟩ := rxq_cases s
    · simp [stepReport, empty] at report
    · simp only [stepReport, hq] at report
      split_ifs at report with h3 acc low matched
      exact ⟨b, rest, hq, low.1, low.2, matched⟩
  · rintro ⟨b, rest, hq, h4, h, hm⟩
    simp only [stepReport, hq]
    rw [if_neg (by omega), if_pos ⟨h4, h⟩]
    exact if_pos hm

/-- Settles O26: report and `ok` have the same condition, and without it the record is left alone. -/
theorem unsuccessfulStepsLookAlike : Obligations.UnsuccessfulStepsLookAlike := by
  intro s t hs
  obtain rfl := exec_step_next_iff.1 hs
  have success : stepReport s = .success ↔ (decoderStep s).ok = .ok :=
    stepReport_success_iff.trans (decoderStep_ok_iff s).symm
  refine ⟨success, fun unsuccessful => ?_⟩
  obtain ⟨waiting, record⟩ | ⟨hok, -⟩ := decoderStep_record s
  · rw [outputs, waiting, record, decoderStep_mode]
    rfl
  · exact absurd (success.2 hok) unsuccessful

/-- Settles O27: the moves give the cursor, the transitions' equations the whole state. -/
theorem cursorMovesByOneOrToZero : Obligations.CursorMovesByOneOrToZero := by
  constructor
  · intro s t inv hs
    obtain rfl := exec_step_next_iff.1 hs
    have move := inv.move
    generalize decoderStep s = t at move
    cases move <;> dsimp only <;> omega
  · intro s b rest inv hq sum received u
    refine ⟨fun h => ?_, fun h => ?_, fun h => ?_, fun h4 h => ?_, fun h4 h => ?_, fun h4 h => ?_⟩
    · rw [exec_step_eq, decoderStep_zero hq inv.config h]
    · rw [exec_step_eq, decoderStep_one hq inv.config h]
    · rw [exec_step_eq, decoderStep_two hq inv.config h]
    · rw [exec_step_eq, decoderStep_checksumHigh hq (inv.lastCursor_lt h4) h4 h]
    · rw [exec_step_eq, decoderStep_checksumLow hq h4 h]
    · have last := inv.lastCursor_lt h4
      rw [exec_step_eq, decoderStep_payload hq (by omega) h4 h]

/-- Settles O29: a STEP takes the first byte off `rxq` and does not look at the others. -/
theorem bytesBehindTheFirstDoNotMatter : Obligations.BytesBehindTheFirstDoNotMatter := by
  intro s t more available hs
  obtain rfl := exec_step_next_iff.1 hs
  rw [exec_step_eq, decoderStep_rxq_append available, decoderStep_rxq]

end Sys2Proof.Machine
end

section
/-!
One step of the block and the agents around it, by what is pending (20_memory.md R64, 60_exceptions.md R184 to R189), and
what no step does.
-/
namespace Sys2Proof.Machine

theorem configOk_iff_configError {c : Config} : configOk c = true ↔ configError c = none := by simp [configOk]

theorem step_marked {s : State} {w : Byte} (mark : s.refusalMark = some w) :
    step s = .refused (.reservedEncoding w) := by
  rw [step, mark]

section
variable {s : State} (unmarked : s.refusalMark = none)
include unmarked

theorem step_illFormed {e : ConfigError} (error : configError s.cfg = some e) :
    step s = .refused (.illFormedConfig e) := by
  rw [step, unmarked, error]

variable (legal : configOk s.cfg = true)
include legal

theorem step_idle (idle : s.inbox = []) : step s = .next s := by
  rw [step, unmarked, configOk_iff_configError.1 legal, idle]

theorem step_pending {i : Input} {rest : List Input} (pending : s.inbox = i :: rest) :
    step s = perform i { s with inbox := rest } := by
  rw [step, unmarked, configOk_iff_configError.1 legal, pending]

end

theorem perform_op {w : Byte} {i : Instr} (hd : decode w = some i) (arriving : List Byte) (s : State) :
    perform (.op w arriving) s = .next (receive arriving (execNext i s)) := by
  simp only [perform, issueWord, hd, exec_eq]

theorem perform_reserved {w : Byte} (reserved : decode w = none) (arriving : List Byte) (s : State) :
    perform (.op w arriving) s = .refused (.reservedEncoding w) := by
  simp only [perform, issueWord, reserved]

/-- Settles O6: the pending word is performed, and a word that decodes is its operation. -/
theorem stepRunsTheDecodedOperation : Obligations.StepRunsTheDecodedOperation := by
  intro s w arriving rest i unmarked legal pending hd
  refine ⟨_, exec_eq i _, ?_⟩
  rw [step_pending unmarked legal pending, perform_op hd, receive]

/-- Settles O7: the refusal is `perform`'s, and `stepMarked` records it. -/
theorem reservedWordIsRefusedAndMarked : Obligations.ReservedWordIsRefusedAndMarked := by
  intro s w arriving rest unmarked legal pending reserved
  have refused : step s = .refused (.reservedEncoding w) := by
    rw [step_pending unmarked legal pending, perform_reserved reserved]
  exact ⟨refused, by rw [stepMarked, refused]⟩

/-- Settles O9: the check of the configuration comes before any input. -/
theorem illFormedConfigurationIsRefused : Obligations.IllFormedConfigurationIsRefused :=
  fun _ _ unmarked error => step_illFormed unmarked error

/-- Settles O11: the environment's inputs are appends and additions. -/
theorem environmentInputsActOnlyOnTheirOwnState : Obligations.EnvironmentInputsActOnlyOnTheirOwnState := by
  intro s rest unmarked legal
  refine ⟨step_idle unmarked legal, fun bytes pending => ?_, fun ms pending => ?_⟩
  · rw [step_pending unmarked legal pending, perform, receive]
  · rw [step_pending unmarked legal pending, perform, advanceClock]

/-- Settles O12: the reset event, whether or not an operation is asserted with it. -/
theorem resetEventRestoresTheRegisters : Obligations.ResetEventRestoresTheRegisters := by
  intro s concurrent rest unmarked legal pending
  rw [step_pending unmarked legal pending, perform, resetBlock, unmarked]

/-- Settles O13: State.reset holds the values literally. -/
theorem resetStateHoldsTheResetValues : Obligations.ResetStateHoldsTheResetValues :=
  ⟨rfl, rfl, rfl, rfl, rfl, rfl, rfl, rfl, rfl⟩

theorem powerUp_inv {c : Config} (legal : configOk c = true) : (powerUp c).Inv where
  config := legal
  cursor := .inl (Nat.zero_le _)
  cursorWidth := Nat.two_pow_pos _
  frameLenWidth := Nat.two_pow_pos _
  sumWidth := Nat.two_pow_pos _
  rxWidth := Nat.two_pow_pos _
  bufLength := List.length_replicate
  recordLength := List.length_replicate
  wholeFrames := fun _ sent => absurd sent List.not_mem_nil
  clockWidth := Nat.two_pow_pos _

/-- Settles O14: power-up leaves registers of 0 and no frame sent. -/
theorem invariantHoldsAtReset : Obligations.InvariantHoldsAtReset :=
  ⟨fun _ legal => ⟨powerUp_inv legal, fun _ => sumBounded_of_cursor_zero rfl (Nat.zero_le _)⟩, reset_eq_powerUp,
    by decide, rfl, rfl, rfl, rfl, rfl, rfl, rfl⟩

/-- R60: no step writes a parameter. -/
theorem step_cfg {s t : State} (hstep : step s = .next t) : t.cfg = s.cfg :=
  step_keeps (P := fun u => u.cfg = s.cfg) (fun _ _ h => h) (fun _ _ h => by rwa [execNext_cfg]) (fun _ _ h => h)
    (fun _ h => h) (fun _ _ h => h) rfl hstep

/-- Settles O41: `lutRead` reads the parameters alone, which no step writes. -/
theorem lutIsReadOnly : Obligations.LutIsReadOnly := by
  refine ⟨fun c rows more r lut => ?_, fun c r lut => ?_, fun s t hstep => ?_⟩
  · rw [lutRead, lut]
  · rw [lutRead, lut]
  · have cfg := step_cfg hstep
    exact ⟨cfg, fun r => by rw [cfg]⟩

/-- Settles O32: of the operations, CMD.ACTIVE and CMD.PASSIVE alone write `mode`; the environment does not. -/
theorem modeChangesOnlyByItsCommandsOrReset : Obligations.ModeChangesOnlyByItsCommandsOrReset := by
  intro s t hstep changed
  obtain ⟨-, -, ⟨-, rfl⟩ | ⟨w, arriving, rest, i, pending, hd, rfl⟩ | ⟨bytes, rest, -, rfl⟩ |
    ⟨concurrent, rest, pending, rfl⟩ | ⟨ms, rest, -, rfl⟩⟩ := step_next_iff.1 hstep
  · exact absurd rfl changed
  · have word := decode_eq_some_iff.1 hd
    cases i with
    | step | cmdSleep | cmdWake => exact absurd (by simp [execNext]) changed
    | cmdReqread => exact absurd (by simp only [execNext]; split <;> simp) changed
    | cmdActive => obtain rfl : w = 0x12 := word; exact .inl ⟨arriving, rest, pending, rfl⟩
    | cmdPassive => obtain rfl : w = 0x13 := word; exact .inr (.inl ⟨arriving, rest, pending, rfl⟩)
  · exact absurd rfl changed
  · exact .inr (.inr ⟨concurrent, rest, pending, rfl⟩)
  · exact absurd rfl changed

/-- Settles O30: of the moves of a STEP the successful one alone writes the record, and no command and no input but reset
does. -/
theorem recordChangesOnlyByCommitOrReset : Obligations.RecordChangesOnlyByCommitOrReset := by
  intro s t inv hstep
  obtain ⟨-, -, ⟨-, rfl⟩ | ⟨w, arriving, rest, i, pending, hd, rfl⟩ | ⟨bytes, rest, -, rfl⟩ |
    ⟨concurrent, rest, pending, rfl⟩ | ⟨ms, rest, -, rfl⟩⟩ := step_next_iff.1 hstep
  · exact .inl rfl
  · by_cases isStep : i = .step
    · subst isStep
      obtain ⟨-, record⟩ | ⟨hok, record⟩ := decoderStep_record { s with inbox := rest }
      · exact .inl record
      · have length : s.buf.length = 2 * s.cfg.nFields := by rw [inv.bufLength, configOk_payloadCap inv.config]
        have fields : (receive arriving (execNext .step { s with inbox := rest })).record = fieldsOfBuffer s.buf :=
          record
        refine .inr (.inl ⟨w, arriving, rest, pending, hd, hok, ?_, fun k hk => ?_⟩)
        · rw [fields, fieldsOfBuffer_length, length]; omega
        · rw [fields]; exact fieldsOfBuffer_pair (by omega)
    · obtain ⟨-, -, -, -, -, -, record⟩ := (execNext_command isStep { s with inbox := rest }).1
      exact .inl record
  · exact .inl rfl
  · exact .inr (.inr ⟨concurrent, rest, pending, rfl⟩)
  · exact .inl rfl

end Sys2Proof.Machine
end

section
/-!
Runs of steps: those that meet a reserved word (60_exceptions.md R184), operations pending back to back (20_memory.md R64),
and several instances (10_state.md R36).
-/
namespace Sys2Proof.Machine

theorem runMarked_of_marked {s : State} {w : Byte} (mark : s.refusalMark = some w) (n : Nat) : runMarked n s = s := by
  have marked : { s with refusalMark := some w } = s := by rw [← mark]
  have same : stepMarked s = s := by rw [stepMarked, step_marked mark]; exact marked
  induction n with
  | zero => rfl
  | succ n ih => rw [runMarked, same, ih]

/-- With a legal configuration, only a reserved word is refused. -/
theorem reserved_of_step_refused {s : State} {r : Refusal} (legal : configOk s.cfg = true)
    (refused : step s = .refused r) : ∃ w, r = .reservedEncoding w := by
  cases mark : s.refusalMark with
  | some w =>
    rw [step_marked mark] at refused
    cases refused
    exact ⟨w, rfl⟩
  | none =>
    cases inbox : s.inbox with
    | nil => rw [step_idle mark legal inbox] at refused; cases refused
    | cons i rest =>
      rw [step_pending mark legal inbox] at refused
      cases i with
      | op w arriving =>
        cases hd : decode w with
        | none => rw [perform_reserved hd] at refused; cases refused; exact ⟨w, rfl⟩
        | some i => rw [perform_op hd] at refused; cases refused
      | rx _ | reset _ | tick _ => cases refused

/-- Settles O8: a refused step leaves a mark, which stays; so where none is left, every step answered a next state. -/
theorem refusalMarkPersists : Obligations.RefusalMarkPersists := by
  refine ⟨fun n s w mark => ⟨step_marked mark, runMarked_of_marked mark n⟩, fun n => ?_⟩
  induction n with
  | zero => exact fun s _ _ => rfl
  | succ n ih =>
    intro s legal unmarked
    rw [runMarked] at unmarked ⊢
    cases hstep : step s with
    | next t =>
      have marked : stepMarked s = t := by rw [stepMarked, hstep]
      rw [marked] at unmarked ⊢
      rw [runSteps, hstep]
      exact ih t (by rwa [step_cfg hstep]) unmarked
    | fault r => cases r
    | refused r =>
      obtain ⟨w, rfl⟩ := reserved_of_step_refused legal hstep
      have mark : (stepMarked s).refusalMark = some w := by rw [stepMarked, hstep]
      rw [runMarked_of_marked mark, mark] at unmarked
      cases unmarked

@[simp] theorem execNext_inbox (i : Instr) (s : State) : (execNext i s).inbox = s.inbox := by
  by_cases h : i = .step
  · rw [h]; exact decoderStep_inbox s
  · obtain ⟨-, -, -, -, inbox, -⟩ := execNext_command h s
    exact inbox

@[simp] theorem execNext_refusalMark (i : Instr) (s : State) : (execNext i s).refusalMark = s.refusalMark := by
  by_cases h : i = .step
  · rw [h]; exact decoderStep_refusalMark s
  · obtain ⟨-, -, -, -, -, mark⟩ := execNext_command h s
    exact mark

/-- Settles O33: the first pending word runs its operation, which neither reads nor writes what is pending behind it. -/
theorem operationsTakeEffectInIssueOrder : Obligations.OperationsTakeEffectInIssueOrder := by
  intro is
  induction is with
  | nil =>
    intro s rest _ _ pending
    obtain rfl : s.inbox = rest := pending
    exact ⟨s, rfl, rfl⟩
  | cons i is ih =>
    intro s rest unmarked legal pending
    rw [List.map_cons, List.cons_append] at pending
    have first : step s = .next (execNext i { s with inbox := is.map (fun i => .op (encode i) []) ++ rest }) := by
      rw [step_pending unmarked legal pending, perform_op (decode_encode i), receive_nil]
    obtain ⟨t, ops, steps⟩ := ih
      (execNext i { s with inbox := is.map (fun i => .op (encode i) []) ++ rest }) rest
      (by rwa [execNext_refusalMark]) (by rwa [execNext_cfg]) (execNext_inbox _ _)
    have same := execNext_inbox_comm i { s with inbox := is.map (fun i => .op (encode i) []) ++ rest } rest
    refine ⟨t, ?_, ?_⟩
    · rw [runOps, exec_eq]
      exact (congrArg (runOps is) same).trans ops
    · rw [List.length_cons, runSteps, first]
      exact steps

theorem stepInstance_of_next {sys : List State} {k : Nat} {s t : State} (found : sys[k]? = some s)
    (hstep : step s = .next t) : stepInstance k sys = .next (sys.set k t) := by
  rw [stepInstance, found]
  simp only [hstep]

theorem stepInstance_of_refused {sys : List State} {k : Nat} {s : State} {r : Refusal} (found : sys[k]? = some s)
    (hstep : step s = .refused r) : stepInstance k sys = .refused r := by
  rw [stepInstance, found]
  simp only [hstep]

/-- Settles O34: `stepInstance` writes position `k` alone, with what `step` gives for the state there. -/
theorem instancesAreIndependent : Obligations.InstancesAreIndependent := by
  intro sys k s found
  have inRange {sys : List State} (found : sys[k]? = some s) (t : State) : (sys.set k t)[k]? = some t :=
    List.getElem?_set_self (List.getElem?_eq_some_iff.1 found).1
  refine ⟨fun t hstep => ?_, fun r hstep => stepInstance_of_refused found hstep, fun sys' other hsys hother => ?_⟩
  · exact ⟨_, stepInstance_of_next found hstep, List.length_set, inRange found t,
      fun j hj => List.getElem?_set_ne hj.symm⟩
  · cases hstep : step s with
    | next t =>
      rw [stepInstance_of_next found hstep] at hsys
      cases hsys
      exact ⟨_, stepInstance_of_next hother hstep, by rw [inRange hother, inRange found]⟩
    | fault r => cases r
    | refused r => rw [stepInstance_of_refused found hstep] at hsys; cases hsys

/-- A relation between two states that every input keeps, and that sees the pending inputs, the mark and the legality of
the parameters, is kept by every step. -/
theorem step_simulates {R : State → State → Prop}
    (same : ∀ {s s'}, R s s' → s'.refusalMark = s.refusalMark ∧ s'.inbox = s.inbox ∧ configOk s'.cfg = true)
    (inbox : ∀ {s s'} ps, R s s' → R { s with inbox := ps } { s' with inbox := ps })
    (ops : ∀ {s s'} i, R s s' → R (execNext i s) (execNext i s'))
    (rx : ∀ {s s'} bs, R s s' → R (receive bs s) (receive bs s'))
    (reset : ∀ {s s'}, R s s' → R (resetBlock s) (resetBlock s'))
    (tick : ∀ {s s'} ms, R s s' → R (advanceClock ms s) (advanceClock ms s'))
    {s s' t : State} (related : R s s') (hstep : step s = .next t) : ∃ t', step s' = .next t' ∧ R t t' := by
  obtain ⟨mark, inboxEq, legal⟩ := same related
  obtain ⟨markNone, -, performed⟩ := step_next_iff.1 hstep
  have unmarked : s'.refusalMark = none := mark.trans markNone
  obtain ⟨idle, rfl⟩ | ⟨w, arriving, rest, i, pending, hd, rfl⟩ | ⟨bytes, rest, pending, rfl⟩ |
    ⟨concurrent, rest, pending, rfl⟩ | ⟨ms, rest, pending, rfl⟩ := performed
  · exact ⟨_, step_idle unmarked legal (inboxEq.trans idle), related⟩
  · rw [step_pending unmarked legal (inboxEq.trans pending), perform_op hd]
    exact ⟨_, rfl, rx arriving (ops i (inbox rest related))⟩
  · rw [step_pending unmarked legal (inboxEq.trans pending)]
    exact ⟨_, rfl, rx bytes (inbox rest related)⟩
  · rw [step_pending unmarked legal (inboxEq.trans pending)]
    exact ⟨_, rfl, reset (inbox rest related)⟩
  · rw [step_pending unmarked legal (inboxEq.trans pending)]
    exact ⟨_, rfl, tick ms (inbox rest related)⟩

end Sys2Proof.Machine
end

section
/-!
The cursor's width is not observable (10_state.md R21): no move of the decoder speaks of it.
-/
namespace Sys2Proof.Machine

/-- The same state with another cursor width. -/
def setCursorWidth (width : Nat) (s : State) : State := { s with cfg := { s.cfg with cursorWidth := width } }

theorem DecoderMove.setCursorWidth {s t : State} (move : DecoderMove s t) (width : Nat) :
    DecoderMove (setCursorWidth width s) (setCursorWidth width t) := by
  cases move with
  | noByte hq => exact .noByte hq
  | start1 hq h hb => exact .start1 hq h hb
  | notStart1 hq h hb => exact .notStart1 hq h hb
  | start2 hq h hb => exact .start2 hq h hb
  | notStart2 hq h hb => exact .notStart2 hq h hb
  | lengthHigh hq h => exact .lengthHigh hq h
  | lengthLow hq h acc => exact .lengthLow hq h acc
  | lengthRejected hq h rejected => exact .lengthRejected hq h rejected
  | payload hq h4 h => exact .payload hq h4 h
  | checksumHigh hq h4 h => exact .checksumHigh hq h4 h
  | success hq h4 h hm => exact .success hq h4 h hm
  | mismatch hq h4 h hm => exact .mismatch hq h4 h hm

/-- A change of state that sending a row and writing `mode` commute with, a command commutes with (R145 to R149). -/
theorem execNext_command_comm {i : Instr} (command : i ≠ .step) {f : State → State}
    (mode : ∀ s, (f s).mode = s.mode) (send : ∀ r s, sendRow r (f s) = f (sendRow r s))
    (write : ∀ m s, writeMode m (f s) = f (writeMode m s)) (s : State) : execNext i (f s) = f (execNext i s) := by
  cases i with
  | step => exact absurd rfl command
  | cmdSleep | cmdWake => exact send _ s
  | cmdActive | cmdPassive => rw [execNext, execNext, send, write]
  | cmdReqread =>
    rw [execNext, execNext, mode, send]
    split <;> rfl

theorem execNext_setCursorWidth {s : State} (inv : s.Inv) {width : Nat}
    (legal : configOk (setCursorWidth width s).cfg = true) (i : Instr) :
    execNext i (setCursorWidth width s) = setCursorWidth width (execNext i s) := by
  by_cases isStep : i = .step
  · rw [isStep]
    exact (inv.move.setCursorWidth width).decoderStep_eq legal inv.cursor
  · exact execNext_command_comm isStep (f := setCursorWidth width) (fun _ => rfl) (fun _ _ => rfl) (fun _ _ => rfl) s

/-- Settles O55: with another legal width every operation leaves what it leaves with the first one, and the environment's
actions do not read it. -/
theorem cursorWidthIsUnobservable : Obligations.CursorWidthIsUnobservable := by
  intro s t width inv legal hstep
  obtain ⟨t', hstep', -, -, rfl⟩ := step_simulates
    (R := fun s s' => s.Inv ∧ configOk (setCursorWidth width s).cfg = true ∧ s' = setCursorWidth width s)
    (same := fun ⟨_, legal, h⟩ => ⟨h ▸ rfl, h ▸ rfl, h ▸ legal⟩)
    (inbox := fun ps ⟨inv, legal, h⟩ => ⟨inv.setInbox ps, legal, h ▸ rfl⟩)
    (ops := fun i ⟨inv, legal, h⟩ =>
      ⟨inv.execNext i, by rwa [setCursorWidth, execNext_cfg], h ▸ execNext_setCursorWidth inv legal i⟩)
    (rx := fun bs ⟨inv, legal, h⟩ => ⟨inv.receive bs, legal, h ▸ rfl⟩)
    (reset := fun ⟨inv, legal, h⟩ => ⟨inv.resetBlock, legal, h ▸ rfl⟩)
    (tick := fun ms ⟨inv, legal, h⟩ => ⟨inv.advanceClock ms, legal, h ▸ rfl⟩) ⟨inv, legal, rfl⟩ hstep
  exact hstep'

end Sys2Proof.Machine
end

section
/-!
The command LUT's rows and their checksum (41_command.md R141 to R143, D10, D11, D28), and which configurations have a
legal LUT.
-/
namespace Sys2Proof.Machine

theorem byteTotal_cons (b : Byte) (bs : List Byte) : byteTotal (b :: bs) = zext b + byteTotal bs := by simp [byteTotal]

theorem byteTotal_le (bs : List Byte) : byteTotal bs ≤ 255 * bs.length := by
  induction bs with
  | nil => exact le_rfl
  | cons b bs ih =>
    have := zext_lt b
    rw [byteTotal_cons, List.length_cons]
    omega

/-- A byte that is set adds itself to the total of the others. -/
theorem byteTotal_set {bs : List Byte} {i : Nat} (inside : i < bs.length) (b : Byte) :
    byteTotal (bs.set i b) = byteTotal (bs.set i 0) + zext b := by
  induction bs generalizing i with
  | nil => exact absurd inside (Nat.not_lt_zero i)
  | cons a bs ih =>
    cases i with
    | zero =>
      have zero : zext 0 = 0 := rfl
      simp only [List.set_cons_zero, byteTotal_cons, zero]
      omega
    | succ i =>
      have later := ih (i := i) (by simpa using inside)
      simp only [List.set_cons_succ, byteTotal_cons]
      omega

theorem commandRow_take (t : Frame) (op var ck : Byte) :
    (commandRow t op var ck).take 14 = ((t.take 14).set 4 op).set 7 var := by
  rw [commandRow, List.take_set_of_le (by omega), List.take_set, List.take_set]

/-- What R143 sums: the fixed bytes and the two per-command bytes before offset 14. -/
theorem byteTotal_commandRow {t : Frame} (h16 : 16 ≤ t.length) (op var ck : Byte) :
    byteTotal ((commandRow t op var ck).take 14) = fixedTotal t + zext op + zext var := by
  have length : (t.take 14).length = 14 := by rw [List.length_take]; omega
  rw [fixedTotal, blank, commandRow_take, commandRow_take, byteTotal_set (by rw [List.length_set]; omega),
    List.set_comm _ _ (by omega), byteTotal_set (by rw [List.length_set]; omega), List.set_comm _ _ (by omega)]

theorem fixedTotal_le (t : Frame) : fixedTotal t ≤ 255 * 14 :=
  (byteTotal_le _).trans (Nat.mul_le_mul_left 255 (List.length_take_le 14 (blank t)))

/-- R143 for a row given by its per-command bytes. No sum of 14 bytes wraps at 16 bits. -/
theorem rowChecksumOk_commandRow {t : Frame} (h16 : 16 ≤ t.length) (op var ck : Byte) :
    rowChecksumOk (commandRow t op var ck) = true ↔ sumBase t + zext ck = fixedTotal t + zext op + zext var := by
  have high : (commandRow t op var ck)[14]? = some (t.getD 14 0) := by
    rw [commandRow_get _ _ _ _ (by omega) (by omega) (by omega), List.getD_eq_getElem?_getD,
      List.getElem?_eq_getElem (by omega), Option.getD_some]
  have low : (commandRow t op var ck)[15]? = some ck := by
    rw [commandRow, List.getElem?_set_self (by simp only [List.length_set]; omega)]
  have total : ((commandRow t op var ck).take 14 |>.map fun b => b.toNat).sum = fixedTotal t + zext op + zext var :=
    byteTotal_commandRow h16 op var ck
  have fixed := fixedTotal_le t
  have opLt := zext_lt op
  have varLt := zext_lt var
  rw [rowChecksumOk_iff, high, low, total, Nat.mod_eq_of_lt (by omega)]
  simp [sumBase, zext]

/-- R141, R143: the legal rows, by their per-command bytes. -/
theorem legalRow_iff_exists {c : Config} {row : Frame} (h16 : 16 ≤ c.cmdFrameLen)
    (hl : c.cmdTemplate.length = c.cmdFrameLen) :
    LegalRow c row ↔ ∃ op var ck : Byte, row = commandRow c.cmdTemplate op var ck ∧
      sumBase c.cmdTemplate + zext ck = fixedTotal c.cmdTemplate + zext op + zext var := by
  have h16 : 16 ≤ c.cmdTemplate.length := hl ▸ h16
  rw [legalRow_iff hl, fixedBytesOk_iff_exists_commandRow]
  constructor
  · rintro ⟨⟨op, var, ck, rfl⟩, sum⟩
    exact ⟨op, var, ck, rfl, (rowChecksumOk_commandRow h16 op var ck).1 sum⟩
  · rintro ⟨op, var, ck, rfl, sum⟩
    exact ⟨⟨op, var, ck, rfl⟩, (rowChecksumOk_commandRow h16 op var ck).2 sum⟩

/-- Settles O44: with the source's fixed bytes R143 reads `0x100 + ck = 0x7D + op + var`. -/
theorem rowChecksumRange : Obligations.RowChecksumRange := by
  intro op var ck
  have base : sumBase Config.sourceTemplate = 256 := rfl
  have fixed : fixedTotal Config.sourceTemplate = 0x7D := rfl
  have ckLt := ck.isLt
  rw [rowChecksumOk_commandRow (by decide), base, fixed]
  simp only [zext]
  omega

/-! The free values: a byte selects any value of a range of at most 256. -/

theorem selected_mem {lo hi : Nat} (h : lo ≤ hi) (raw : Byte) :
    lo ≤ lo + zext raw % (hi - lo + 1) ∧ lo + zext raw % (hi - lo + 1) ≤ hi := by
  have := Nat.mod_lt (zext raw) (show 0 < hi - lo + 1 by omega)
  omega

theorem exists_selected {lo hi v : Nat} (ge : lo ≤ v) (le : v ≤ hi) (byte : v - lo < 256) :
    ∃ raw : Byte, lo + zext raw % (hi - lo + 1) = v := by
  refine ⟨BitVec.ofNat 8 (v - lo), ?_⟩
  rw [zext, BitVec.toNat_ofNat, Nat.mod_eq_of_lt (by omega), Nat.mod_eq_of_lt (by omega)]
  omega

theorem hasOpenRow_iff {t : Frame} :
    hasOpenRow t = true ↔ fixedTotal t ≤ sumBase t + 255 ∧ openLow t ≤ 510 := by
  simp [hasOpenRow]

/-- The sums `<op> + <variant>` that R143 allows: those that leave `<checksum>` a byte. -/
theorem openRange_iff {t : Frame} {total : Nat} (le : total ≤ 510) :
    (hasOpenRow t = true ∧ openLow t ≤ total ∧ total ≤ openHigh t) ↔
      sumBase t ≤ fixedTotal t + total ∧ fixedTotal t + total ≤ sumBase t + 255 := by
  rw [hasOpenRow_iff, openLow, openHigh]
  omega

theorem openSum_mem {t : Frame} (has : hasOpenRow t = true) (raw : Byte) :
    openLow t ≤ openSum t raw ∧ openSum t raw ≤ openHigh t := by
  refine selected_mem ?_ raw
  rw [hasOpenRow_iff, openLow] at has
  rw [openLow, openHigh]
  omega

theorem exists_openSum {t : Frame} {total : Nat} (ge : openLow t ≤ total) (le : total ≤ openHigh t) :
    ∃ raw : Byte, openSum t raw = total := by
  refine exists_selected ge le ?_
  simp only [openLow, openHigh] at ge le ⊢
  omega

theorem openHigh_le (t : Frame) : openHigh t ≤ 510 := Nat.min_le_left ..

/-- `<op>` and what it leaves of the sum are bytes. -/
theorem openOp_mem {total : Nat} (le : total ≤ 510) (raw : Byte) :
    openOp total raw ≤ total ∧ openOp total raw < 256 ∧ total - openOp total raw < 256 := by
  have range : total - 255 ≤ openOp total raw ∧ openOp total raw ≤ min 255 total := selected_mem (by omega) raw
  omega

theorem exists_openOp (op var : Byte) : ∃ raw : Byte, openOp (zext op + zext var) raw = zext op := by
  have opLt := zext_lt op
  have varLt := zext_lt var
  exact exists_selected (by omega) (by omega) (by omega)

theorem ofNat_zext (b : Byte) : BitVec.ofNat 8 (zext b) = b := by rw [zext, BitVec.ofNat_toNat, BitVec.setWidth_eq]

theorem zext_ofNat (n : Nat) : zext (BitVec.ofNat 8 n) = n % 256 := BitVec.toNat_ofNat ..

/-- The row that the selected values give, by their sum and `<op>`. -/
theorem openRow_eq (t : Frame) (rawSum rawOp : Byte) {total op : Nat} (hsum : openSum t rawSum = total)
    (hop : openOp total rawOp = op) : openRow t rawSum rawOp =
      commandRow t (BitVec.ofNat 8 op) (BitVec.ofNat 8 (total - op)) (BitVec.ofNat 8 (fixedTotal t + total)) := by
  subst hsum hop
  rfl

/-- Settles O45: the two selected values run through the sums R143 allows and through the ways to split one into two
bytes; the checksum byte is then the low byte of the sum, whose high byte is fixed. -/
theorem freeRowsAreExactlyTheLegalRows : Obligations.FreeRowsAreExactlyTheLegalRows := by
  intro c row h16 hl
  rw [legalRow_iff_exists h16 hl]
  generalize c.cmdTemplate = t
  have base : sumBase t = 256 * zext (t.getD 14 0) := rfl
  constructor
  · rintro ⟨op, var, ck, rfl, sum⟩
    have opLt := zext_lt op
    have varLt := zext_lt var
    have ckLt := zext_lt ck
    obtain ⟨has, ge, le⟩ := (openRange_iff (t := t) (total := zext op + zext var) (by omega)).2 (by omega)
    obtain ⟨rawSum, hsum⟩ := exists_openSum ge le
    obtain ⟨rawOp, hop⟩ := exists_openOp op var
    have low : fixedTotal t + (zext op + zext var) = 256 * zext (t.getD 14 0) + zext ck := by omega
    have ckByte : BitVec.ofNat 8 (fixedTotal t + (zext op + zext var)) = ck := by
      refine BitVec.eq_of_toNat_eq ?_
      rw [BitVec.toNat_ofNat, low]
      exact (Nat.mul_add_mod ..).trans (Nat.mod_eq_of_lt ckLt)
    refine ⟨has, rawSum, rawOp, ?_⟩
    rw [openRow_eq t rawSum rawOp hsum hop, Nat.add_sub_cancel_left, ofNat_zext, ofNat_zext, ckByte]
  · rintro ⟨has, rawSum, rawOp, rfl⟩
    obtain ⟨ge, le⟩ := openSum_mem has rawSum
    have le510 := le.trans (openHigh_le t)
    obtain ⟨opLe, opLt, varLt⟩ := openOp_mem le510 rawOp
    have range := (openRange_iff le510).1 ⟨has, ge, le⟩
    refine ⟨_, _, _, openRow_eq t rawSum rawOp rfl rfl, ?_⟩
    rw [zext_ofNat, zext_ofNat, zext_ofNat]
    omega

/-- R141, R143: a table has no row error exactly when its rows are legal. -/
theorem rowsError_none_iff_legalRow {c : Config} (hl : c.cmdTemplate.length = c.cmdFrameLen) (rows : List Frame) :
    rowsError c.cmdTemplate 0 rows = none ↔ ∀ row ∈ rows, LegalRow c row := by
  simp only [rowsError_none, legalRow_iff hl]

theorem lutError_builtIn {c : Config} (lut : c.cmdLut = .builtIn) :
    lutError c = none ↔ 5 ≤ c.nCmd ∧ hasOpenRow c.cmdTemplate = true := by
  rw [lutError, lut]
  dsimp only
  rw [check_none, check_none]
  simp

theorem lutError_table {c : Config} (hl : c.cmdTemplate.length = c.cmdFrameLen) {rows : Vector Frame 5}
    {more : List Frame} (lut : c.cmdLut = .table rows more) :
    lutError c = none ↔ c.nCmd = 5 + more.length ∧ ∀ row ∈ rows.toList ++ more, LegalRow c row := by
  rw [lutError, lut]
  dsimp only
  rw [check_none, rowsError_none_iff_legalRow hl, not_not]

/-- The built-in table has a legal row for every free value where any row is legal. -/
theorem hasOpenRow_iff_exists_legalRow {c : Config} (h16 : 16 ≤ c.cmdFrameLen)
    (hl : c.cmdTemplate.length = c.cmdFrameLen) :
    hasOpenRow c.cmdTemplate = true ↔ ∃ row, LegalRow c row := by
  constructor
  · exact fun has => ⟨_, (freeRowsAreExactlyTheLegalRows c _ h16 hl).2 ⟨has, 0, 0, rfl⟩⟩
  · exact fun ⟨row, legal⟩ => ((freeRowsAreExactlyTheLegalRows c row h16 hl).1 legal).1

/-- Settles O43: a row of the built-in table is drawn from the legal rows, a row of a named table is checked. -/
theorem rowsEndInTheirChecksum : Obligations.RowsEndInTheirChecksum := by
  intro c r legal
  obtain ⟨h16, hl⟩ := configOk_template legal
  cases lut : c.cmdLut with
  | builtIn =>
    have has := ((lutError_builtIn lut).1 (configOk_lut legal)).2
    rw [lutRead, lut]
    exact (freeRowsAreExactlyTheLegalRows c _ h16 hl).2 ⟨has, _, _, rfl⟩
  | table rows more =>
    rw [lutRead, lut]
    exact ((lutError_table hl lut).1 (configOk_lut legal)).2 _ (by simp)

/-- The LUT's part of the check, for both sources of the LUT. -/
theorem lutError_none_iff {c : Config} (h16 : 16 ≤ c.cmdFrameLen) (hl : c.cmdTemplate.length = c.cmdFrameLen) :
    lutError c = none ↔ 5 ≤ c.nCmd ∧ (c.cmdLut = .builtIn → ∃ row, LegalRow c row) ∧
      ∀ rows more, c.cmdLut = .table rows more →
        c.nCmd = 5 + more.length ∧ ∀ row ∈ rows.toList ++ more, LegalRow c row := by
  cases lut : c.cmdLut with
  | builtIn => simp [lutError_builtIn lut, hasOpenRow_iff_exists_legalRow h16 hl]
  | table rows more =>
    rw [lutError_table hl lut]
    constructor
    · rintro ⟨count, legal⟩
      refine ⟨by omega, nofun, fun rows' more' same => ?_⟩
      cases same
      exact ⟨count, legal⟩
    · exact fun ⟨_, _, table⟩ => table rows more rfl

/-- Settles O10: the check clause by clause, with the LUT's clause for both sources. -/
theorem configurationConstraints : Obligations.ConfigurationConstraints := by
  intro c
  simp only [configOk_iff, accepted_eq_true]
  constructor
  · rintro ⟨cap, lengths, h16, hl, lut⟩
    obtain ⟨count, builtIn, table⟩ := (lutError_none_iff h16 hl).1 lut
    exact ⟨cap, lengths, count, h16, hl, builtIn, table⟩
  · rintro ⟨cap, lengths, count, h16, hl, builtIn, table⟩
    exact ⟨cap, lengths, h16, hl, (lutError_none_iff h16 hl).2 ⟨count, builtIn, table⟩⟩

end Sys2Proof.Machine
end

section
/-!
Streams without a start pair (40_decoder.md R121 item 2, 41_command.md R144): the decoder never gets beyond cursor 1.
-/
namespace Sys2Proof.Machine

/-- Nowhere in these bytes does START2 follow START1 immediately. -/
def NoStartPair (c : Config) (bs : List Byte) : Prop := ¬ [c.start1, c.start2] <:+: bs

theorem NoStartPair.of_infix {c : Config} {bs cs : List Byte} (absent : NoStartPair c cs) (part : bs <:+: cs) :
    NoStartPair c bs := fun pair => absent (pair.trans part)

theorem NoStartPair.second_ne {c : Config} {b : Byte} {bs : List Byte} (absent : NoStartPair c (c.start1 :: b :: bs)) :
    b ≠ c.start2 := by
  rintro rfl
  exact absent ⟨[], bs, rfl⟩

/-- The next `n` bytes, behind the START1 that was consumed last at cursor 1, have no start pair. -/
structure Searching (n : Nat) (s : State) : Prop where
  legal : configOk s.cfg = true
  place : (s.cursor = 0 ∧ NoStartPair s.cfg (s.rxq.take n)) ∨
    (s.cursor = 1 ∧ NoStartPair s.cfg (s.cfg.start1 :: s.rxq.take n))

/-- One of these bytes at most starts an attempt, which the next one ends. -/
theorem Searching.decoderStep {n : Nat} {s : State} (search : Searching (n + 1) s) :
    Searching n (decoderStep s) ∧ (decoderStep s).ok = .waiting ∧ (decoderStep s).record = s.record := by
  obtain ⟨legal, place⟩ := search
  obtain empty | ⟨b, rest, hq⟩ := rxq_cases s
  · rw [decoderStep_nil empty]
    refine ⟨⟨legal, ?_⟩, rfl, rfl⟩
    dsimp only
    rw [empty, List.take_nil] at place ⊢
    exact place
  rw [hq, List.take_succ_cons] at place
  obtain ⟨h, absent⟩ | ⟨h, absent⟩ := place
  · by_cases hb : b = s.cfg.start1
    · rw [decoderStep_zero hq legal h, if_pos hb]
      exact ⟨⟨legal, .inr ⟨rfl, hb ▸ absent⟩⟩, rfl, rfl⟩
    · rw [decoderStep_zero hq legal h, if_neg hb]
      exact ⟨⟨legal, .inl ⟨h, absent.of_infix (List.suffix_cons _ _).isInfix⟩⟩, rfl, rfl⟩
  · rw [decoderStep_one hq legal h, if_neg absent.second_ne]
    have later : rest.take n <:+: s.cfg.start1 :: b :: rest.take n := ⟨[s.cfg.start1, b], [], by simp⟩
    exact ⟨⟨legal, .inl ⟨rfl, absent.of_infix later⟩⟩, rfl, rfl⟩

theorem execAll_replicate_succ (n : Nat) (s : State) :
    execAll (List.replicate (n + 1) .step) s = execAll (List.replicate n .step) (decoderStep s) := rfl

/-- STEPs over bytes without a start pair: none succeeds. -/
theorem Searching.execAll {n : Nat} {s : State} (search : Searching n s) (pos : 1 ≤ n) :
    (execAll (List.replicate n .step) s).ok = .waiting ∧
      (execAll (List.replicate n .step) s).record = s.record := by
  induction n generalizing s with
  | zero => omega
  | succ n ih =>
    obtain ⟨search, waiting, record⟩ := search.decoderStep
    rw [execAll_replicate_succ]
    obtain rfl | more := Nat.eq_zero_or_pos n
    · exact ⟨waiting, record⟩
    · rw [← record]
      exact ih search more

/-- Settles O50: a stream without a start pair has none in the bytes that the STEPs consume. -/
theorem noStartPairNoSuccess : Obligations.NoStartPairNoSuccess := by
  intro n s legal h noPair pos
  have absent : NoStartPair s.cfg s.rxq := fun ⟨before, after, pair⟩ => noPair before after (by simp [← pair])
  have search : Searching n s := ⟨legal, .inl ⟨h, absent.of_infix (List.take_prefix n _).isInfix⟩⟩
  exact ⟨_, runOps_eq _ s, search.execAll pos⟩

/-- R144: a row with the source's fixed bytes has no pair `32 3D`, whatever its per-command bytes are: each of them stands
between fixed bytes, or at the end. -/
theorem noStartPair_sourceRow {c : Config} (start1 : c.start1 = 0x32) (start2 : c.start2 = 0x3D) (op var ck : Byte) :
    NoStartPair c
      [0x33, 0x3E, 0x00, 0x0C, op, 0x00, 0x00, var, 0x00, 0x00, 0x00, 0x00, 0x00, 0x00, 0x01, ck] := by
  rw [NoStartPair, start1, start2]
  simp [List.infix_cons_iff]

/-- Settles O46: the 16 bytes of a row have no start pair. -/
theorem commandRowsAreNotReceivedFrames : Obligations.CommandRowsAreNotReceivedFrames := by
  intro s r rest n legal template start1 start2 h row pos le
  obtain ⟨op, var, ck, bytes⟩ := rowsCarryTheFixedBytes s.cfg r legal template
  have absent := noStartPair_sourceRow start1 start2 op var ck
  rw [← bytes] at absent
  have length : n ≤ (lutRead s.cfg r).length := by rw [bytes]; exact le
  have search : Searching n s := by
    refine ⟨legal, .inl ⟨h, ?_⟩⟩
    rw [row, List.take_append_of_le_length length]
    exact absent.of_infix (List.take_prefix n _).isInfix
  exact ⟨_, runOps_eq _ s, search.execAll pos⟩

end Sys2Proof.Machine
end

section
/-!
The scratch registers `frameLen`, `sumAcc` and `rxSum` (10_state.md R34): every attempt writes each of them before it reads
it.
-/
namespace Sys2Proof.Machine

/-- The same state with other values in the scratch registers. -/
def setScratch (len sum rx : Nat) (s : State) : State := { s with frameLen := len, sumAcc := sum, rxSum := rx }

/-- The values differ from those of `s` only in registers that the attempt `s` is in has not written yet. -/
structure ScratchFree (len sum rx : Nat) (s : State) : Prop where
  legal : configOk s.cfg = true
  place : CursorInv s
  sum_eq : 1 ≤ s.cursor → sum = s.sumAcc
  len_eq : 3 ≤ s.cursor → len = s.frameLen
  rx_eq : 4 ≤ s.cursor → s.cursor = s.frameLen + 3 → rx = s.rxSum

theorem ScratchFree.of_cursor_zero {len sum rx : Nat} {s : State} (legal : configOk s.cfg = true) (h : s.cursor = 0) :
    ScratchFree len sum rx s := by
  refine ⟨legal, .inl ?_, ?_, ?_, ?_⟩ <;> omega

theorem ScratchFree.setScratch_place {len sum rx : Nat} {s : State} (free : ScratchFree len sum rx s) :
    CursorInv (setScratch len sum rx s) := by
  obtain header | ⟨acc, h4, last⟩ := free.place
  · exact .inl header
  · obtain rfl := free.len_eq (by omega)
    exact .inr ⟨acc, h4, last⟩

theorem ScratchFree.move {len sum rx : Nat} {s t : State} (free : ScratchFree len sum rx s) (move : DecoderMove s t) :
    ∃ len' sum' rx', DecoderMove (setScratch len sum rx s) (setScratch len' sum' rx' t) ∧
      ScratchFree len' sum' rx' t := by
  have legal := free.legal
  have place := move.cursorInv legal free.place
  cases move with
  | noByte hq => exact ⟨len, sum, rx, .noByte hq, { free with }⟩
  | start1 hq h hb =>
    exact ⟨len, _, rx, .start1 hq h hb, legal, place, fun _ => rfl, nofun, nofun⟩
  | notStart1 hq h hb => exact ⟨len, sum, rx, .notStart1 hq h hb, { free with }⟩
  | start2 hq h hb =>
    obtain rfl := free.sum_eq (by omega)
    exact ⟨len, _, rx, .start2 hq h hb, legal, place, fun _ => rfl, nofun, nofun⟩
  | notStart2 hq h hb => exact ⟨len, sum, rx, .notStart2 hq h hb, .of_cursor_zero legal rfl⟩
  | lengthHigh hq h =>
    obtain rfl := free.sum_eq (by omega)
    exact ⟨_, _, rx, .lengthHigh hq h, legal, place, fun _ => rfl, fun _ => rfl, nofun⟩
  | lengthLow hq h acc =>
    obtain rfl := free.sum_eq (by omega)
    obtain rfl := free.len_eq (by omega)
    have two := (configOk_accepted legal acc).1
    exact ⟨_, _, rx, .lengthLow hq h acc, legal, place, fun _ => rfl, fun _ => rfl,
      fun _ last => by dsimp only at last; omega⟩
  | lengthRejected hq h rejected =>
    obtain rfl := free.len_eq (by omega)
    exact ⟨_, sum, rx, .lengthRejected hq h rejected, .of_cursor_zero legal rfl⟩
  | payload hq h4 h =>
    obtain rfl := free.sum_eq (by omega)
    obtain rfl := free.len_eq (by omega)
    exact ⟨_, _, rx, .payload hq h4 h, legal, place, fun _ => rfl, fun _ => rfl,
      fun _ last => by dsimp only at last; omega⟩
  | checksumHigh hq h4 h =>
    obtain rfl := free.sum_eq (by omega)
    obtain rfl := free.len_eq (by omega)
    exact ⟨_, _, _, .checksumHigh hq h4 h, legal, place, fun _ => rfl, fun _ => rfl, fun _ _ => rfl⟩
  | success hq h4 h hm =>
    obtain rfl := free.sum_eq (by omega)
    obtain rfl := free.len_eq (by omega)
    obtain rfl := free.rx_eq h4 h
    exact ⟨_, _, _, .success hq h4 h hm, .of_cursor_zero legal rfl⟩
  | mismatch hq h4 h hm =>
    obtain rfl := free.sum_eq (by omega)
    obtain rfl := free.len_eq (by omega)
    obtain rfl := free.rx_eq h4 h
    exact ⟨_, _, _, .mismatch hq h4 h hm, .of_cursor_zero legal rfl⟩

/-- The two states differ at most in scratch registers that the attempt has not written yet. -/
def ScratchRelated (s s' : State) : Prop :=
  ∃ len sum rx, s' = setScratch len sum rx s ∧ ScratchFree len sum rx s

theorem ScratchFree.decoderStep {len sum rx : Nat} {s : State} (free : ScratchFree len sum rx s) :
    ScratchRelated (decoderStep s) (decoderStep (setScratch len sum rx s)) := by
  obtain ⟨len', sum', rx', move, free'⟩ := free.move (decoderStep_move free.legal free.place)
  exact ⟨len', sum', rx', move.decoderStep_eq free.legal free.setScratch_place, free'⟩

/-- A command neither reads nor writes the decoder's registers (R150). -/
theorem execNext_setScratch {i : Instr} (command : i ≠ .step) (len sum rx : Nat) (s : State) :
    execNext i (setScratch len sum rx s) = setScratch len sum rx (execNext i s) :=
  execNext_command_comm command (f := setScratch len sum rx) (fun _ => rfl) (fun _ _ => rfl) (fun _ _ => rfl) s

theorem ScratchFree.of_sameDecoder {len sum rx : Nat} {s t : State} (free : ScratchFree len sum rx s)
    (same : SameDecoder s t) (cfg : t.cfg = s.cfg) : ScratchFree len sum rx t := by
  obtain ⟨legal, place, sum_eq, len_eq, rx_eq⟩ := free
  obtain ⟨cursor, frameLen, sumAcc, rxSum, -⟩ := same
  exact ⟨cfg ▸ legal, by rwa [CursorInv, cursor, frameLen, cfg], by rwa [cursor, sumAcc], by rwa [cursor, frameLen],
    by rwa [cursor, frameLen, rxSum]⟩

theorem ScratchRelated.execNext {s s' : State} (related : ScratchRelated s s') (i : Instr) :
    ScratchRelated (execNext i s) (execNext i s') := by
  obtain ⟨len, sum, rx, rfl, free⟩ := related
  by_cases isStep : i = .step
  · rw [isStep]; exact free.decoderStep
  · obtain ⟨same, cfg, -⟩ := execNext_command isStep s
    exact ⟨len, sum, rx, execNext_setScratch isStep len sum rx s, free.of_sameDecoder same cfg⟩

theorem ScratchRelated.step {s s' t : State} (related : ScratchRelated s s') (hstep : step s = .next t) :
    ∃ t', step s' = .next t' ∧ ScratchRelated t t' := by
  refine step_simulates (R := ScratchRelated) ?_ ?_ (fun i related => related.execNext i) ?_ ?_ ?_ related hstep
  · exact fun ⟨_, _, _, h, free⟩ => ⟨h ▸ rfl, h ▸ rfl, h ▸ free.legal⟩
  · exact fun ps ⟨len, sum, rx, h, free⟩ => ⟨len, sum, rx, h ▸ rfl, { free with }⟩
  · exact fun bs ⟨len, sum, rx, h, free⟩ => ⟨len, sum, rx, h ▸ rfl, { free with }⟩
  · exact fun ⟨_, _, _, h, free⟩ => ⟨0, 0, 0, h ▸ rfl, .of_cursor_zero free.legal rfl⟩
  · exact fun ms ⟨len, sum, rx, h, free⟩ => ⟨len, sum, rx, h ▸ rfl, { free with }⟩

theorem ScratchRelated.runSteps {n : Nat} {s s' t : State} (related : ScratchRelated s s')
    (run : runSteps n s = .next t) : ∃ t', runSteps n s' = .next t' ∧ ScratchRelated t t' := by
  induction n generalizing s s' with
  | zero =>
    cases run
    exact ⟨s', rfl, related⟩
  | succ n ih =>
    rw [Machine.runSteps] at run ⊢
    cases hstep : Machine.step s with
    | next u =>
      obtain ⟨u', hstep', related'⟩ := related.step hstep
      rw [hstep] at run
      rw [hstep']
      exact ih related' run
    | fault r => cases r
    | refused r => rw [hstep] at run; cases run

/-- Settles O54: at cursor 0 an attempt has written nothing yet, so the registers may hold anything; the relation is kept
by every step, and it says that all the rest is the same. -/
theorem scratchRegistersNeverOutliveAnAttempt : Obligations.ScratchRegistersNeverOutliveAnAttempt := by
  intro n s t len sum rx legal h run
  have related : ScratchRelated s (setScratch len sum rx s) := ⟨len, sum, rx, rfl, .of_cursor_zero legal h⟩
  obtain ⟨t', run', len', sum', rx', rfl, -⟩ := related.runSteps run
  exact ⟨_, run', rfl, rfl, rfl, rfl, rfl⟩

end Sys2Proof.Machine
end

section
/-!
What the decoder has consumed since it was last at cursor 0 (40_decoder.md R103 to R112), byte by byte: an attempt at a
frame, whose bytes the registers are a function of.
-/
namespace Sys2Proof.Machine

/-- The buffer after these payload bytes have been stored over it, those beyond `cap` dropped (R54). -/
def storedBuffer (cap : Nat) (payload : List Byte) (buf : Buffer) : Buffer :=
  payload.zipIdx.foldl (fun acc byteAt => if byteAt.2 < cap then acc.set byteAt.2 byteAt.1 else acc) buf

@[simp] theorem storedBuffer_nil (cap : Nat) (buf : Buffer) : storedBuffer cap [] buf = buf := rfl

theorem storedBuffer_snoc (cap : Nat) (payload : List Byte) (b : Byte) (buf : Buffer) :
    storedBuffer cap (payload ++ [b]) buf = if payload.length < cap then
      (storedBuffer cap payload buf).set payload.length b else storedBuffer cap payload buf := by
  simp [storedBuffer, List.zipIdx_append]

@[simp] theorem storedBuffer_length (cap : Nat) (payload : List Byte) (buf : Buffer) :
    (storedBuffer cap payload buf).length = buf.length := by
  induction payload using List.reverseRecOn with
  | nil => rfl
  | append_singleton payload b ih =>
    rw [storedBuffer_snoc]
    split <;> simp [ih]

theorem storedByte_eq (payload : List Byte) (buf : Buffer) (i : Nat) :
    storedByte payload buf i = if i < payload.length then payload[i]? else buf[i]? := by
  rw [storedByte]
  split
  case isTrue h => exact List.getElem?_append_left h
  case isFalse h =>
    rw [List.getElem?_append_right (by omega), List.getElem?_drop]
    congr 1
    omega

theorem storedBuffer_snoc_get_ne {i : Nat} (cap : Nat) {payload : List Byte} (other : i ≠ payload.length) (b : Byte)
    (buf : Buffer) : (storedBuffer cap (payload ++ [b]) buf)[i]? = (storedBuffer cap payload buf)[i]? := by
  rw [storedBuffer_snoc]
  split
  · exact List.getElem?_set_ne other.symm
  · rfl

/-- Each byte of the stored buffer is the payload's, or what it was before (R120). -/
theorem storedBuffer_get {cap i : Nat} {buf : Buffer} (length : buf.length = cap) (inside : i < cap)
    (payload : List Byte) : (storedBuffer cap payload buf)[i]? = storedByte payload buf i := by
  rw [storedByte_eq]
  induction payload using List.reverseRecOn with
  | nil => simp
  | append_singleton payload b ih =>
    rw [List.length_append, List.length_singleton]
    obtain before | rfl | behind := Nat.lt_trichotomy i payload.length
    · rw [storedBuffer_snoc_get_ne cap (by omega), ih, if_pos before, if_pos (by omega),
        List.getElem?_append_left before]
    · rw [storedBuffer_snoc, if_pos inside, if_pos (by omega), List.getElem?_set_self (by simp [length, inside]),
        List.getElem?_concat_length]
    · rw [storedBuffer_snoc_get_ne cap (by omega), ih, if_neg (by omega), if_neg (by omega)]

/-- R111, R120: what a commit writes from the stored buffer. -/
theorem committedFields_storedBuffer {c : Config} {buf : Buffer} (legal : configOk c = true)
    (length : buf.length = c.payloadCap) (payload : List Byte) :
    CommittedFields c payload buf (fieldsOfBuffer (storedBuffer c.payloadCap payload buf)) := by
  have cap := configOk_payloadCap legal
  have lengthStored : (storedBuffer c.payloadCap payload buf).length = 2 * c.nFields := by
    rw [storedBuffer_length, length, cap]
  refine ⟨?_, fun k hk => ?_⟩
  · rw [fieldsOfBuffer_length, lengthStored]; omega
  · obtain ⟨hi, lo, high, low, field⟩ := fieldsOfBuffer_pair (buf := storedBuffer c.payloadCap payload buf)
      (k := k) (by omega)
    rw [storedBuffer_get length (by omega)] at high low
    exact ⟨hi, lo, high, low, field⟩

/-- The two writes of a pair to a register (R105 and R106, R109 and R110). -/
theorem pairAt_of_writes (w : Nat) (hi lo : Byte) :
    (256 * hi.toNat % 2 ^ w ||| lo.toNat) % 2 ^ w = pairAt w hi lo := by
  rw [← write_pair, shl8, zext, zext, Nat.mul_comm]

theorem RxFrame.bytes_eq (f : RxFrame) (c : Config) :
    f.bytes c = c.start1 :: c.start2 :: f.lenHi :: f.lenLo :: (f.payload ++ [f.sumHi, f.sumLo]) := rfl

theorem RxFrame.head_snoc (f : RxFrame) (c : Config) (b : Byte) :
    RxFrame.head c { f with payload := f.payload ++ [b] } = f.head c ++ [b] := by simp [RxFrame.head]

/-- The registers hold what the bytes of an attempt leave in them. In the last two constructors the frame's parts that are
not received yet are any. `buf` is the buffer the attempt began with. -/
inductive Attempt (buf : Buffer) (s : State) : List Byte → Prop
  /-- between attempts -/
  | idle (h : s.cursor = 0) (hbuf : s.buf = buf) : Attempt buf s []
  /-- R103 -/
  | start1 (h : s.cursor = 1) (hbuf : s.buf = buf)
      (sum : s.sumAcc = byteSum s.cfg.checksumWidth [s.cfg.start1]) : Attempt buf s [s.cfg.start1]
  /-- R104 -/
  | start2 (h : s.cursor = 2) (hbuf : s.buf = buf)
      (sum : s.sumAcc = byteSum s.cfg.checksumWidth [s.cfg.start1, s.cfg.start2]) :
      Attempt buf s [s.cfg.start1, s.cfg.start2]
  /-- R105 -/
  | lengthHigh (hi : Byte) (h : s.cursor = 3) (hbuf : s.buf = buf)
      (len : s.frameLen = 256 * hi.toNat % 2 ^ s.cfg.frameLenWidth)
      (sum : s.sumAcc = byteSum s.cfg.checksumWidth [s.cfg.start1, s.cfg.start2, hi]) :
      Attempt buf s [s.cfg.start1, s.cfg.start2, hi]
  /-- R106, R112: an accepted length and as many payload bytes as there are -/
  | payload (f : RxFrame) (acc : accepted s.cfg (f.len s.cfg) = true) (room : f.payload.length ≤ f.len s.cfg - 2)
      (h : s.cursor = f.payload.length + 4) (hbuf : s.buf = storedBuffer s.cfg.payloadCap f.payload buf)
      (len : s.frameLen = f.len s.cfg) (sum : s.sumAcc = byteSum s.cfg.checksumWidth (f.head s.cfg)) :
      Attempt buf s (f.head s.cfg)
  /-- R109 -/
  | checksumHigh (f : RxFrame) (framed : f.Framed s.cfg) (h : s.cursor = f.len s.cfg + 3)
      (hbuf : s.buf = storedBuffer s.cfg.payloadCap f.payload buf) (len : s.frameLen = f.len s.cfg)
      (sum : s.sumAcc = byteSum s.cfg.checksumWidth (f.head s.cfg))
      (rx : s.rxSum = 256 * f.sumHi.toNat % 2 ^ s.cfg.checksumWidth) : Attempt buf s (f.head s.cfg ++ [f.sumHi])

/-- An attempt is in the registers, but for `ok` and the record. -/
theorem Attempt.of_registers {buf : Buffer} {s t : State} {bs : List Byte} (attempt : Attempt buf s bs)
    (cfg : t.cfg = s.cfg) (cursor : t.cursor = s.cursor) (frameLen : t.frameLen = s.frameLen)
    (sumAcc : t.sumAcc = s.sumAcc) (rxSum : t.rxSum = s.rxSum) (hbuf' : t.buf = s.buf) : Attempt buf t bs := by
  cases attempt with
  | idle h hbuf => exact .idle (cursor.trans h) (hbuf'.trans hbuf)
  | start1 h hbuf sum => rw [← cfg] at *; exact .start1 (cursor.trans h) (hbuf'.trans hbuf) (sumAcc.trans sum)
  | start2 h hbuf sum => rw [← cfg] at *; exact .start2 (cursor.trans h) (hbuf'.trans hbuf) (sumAcc.trans sum)
  | lengthHigh hi h hbuf len sum =>
    rw [← cfg] at *
    exact .lengthHigh hi (cursor.trans h) (hbuf'.trans hbuf) (frameLen.trans len) (sumAcc.trans sum)
  | payload f acc room h hbuf len sum =>
    rw [← cfg] at *
    exact .payload f acc room (cursor.trans h) (hbuf'.trans hbuf) (frameLen.trans len) (sumAcc.trans sum)
  | checksumHigh f framed h hbuf len sum rx =>
    rw [← cfg] at *
    exact .checksumHigh f framed (cursor.trans h) (hbuf'.trans hbuf) (frameLen.trans len) (sumAcc.trans sum)
      (rxSum.trans rx)

theorem Attempt.of_sameDecoder {buf : Buffer} {s t : State} {bs : List Byte} (attempt : Attempt buf s bs)
    (same : SameDecoder s t) (cfg : t.cfg = s.cfg) : Attempt buf t bs := by
  obtain ⟨cursor, frameLen, sumAcc, rxSum, hbuf, -⟩ := same
  exact attempt.of_registers cfg cursor frameLen sumAcc rxSum hbuf

/-- R102: a STEP without a byte leaves the attempt as it is. -/
theorem Attempt.noByte {buf : Buffer} {s : State} {bs : List Byte} (attempt : Attempt buf s bs) (empty : s.rxq = []) :
    Attempt buf (decoderStep s) bs := by
  rw [decoderStep_nil empty]
  exact attempt.of_registers rfl rfl rfl rfl rfl rfl

/-- What the next byte of an attempt leads to, from `s` to `t`; `bs` are the attempt's bytes with the new one. -/
inductive Consumed (buf : Buffer) (s t : State) (bs : List Byte) : Prop
  /-- the attempt goes on -/
  | continues (attempt : Attempt buf t bs) (hok : t.ok = .waiting) (record : t.record = s.record)
  /-- the bytes begin no frame -/
  | lost (h : t.cursor = 0) (hok : t.ok = .waiting) (never : ∀ f : RxFrame, f.Framed s.cfg → ¬ bs <+: f.bytes s.cfg)
  /-- R110, R111: the bytes are a whole frame with its sum -/
  | success (f : RxFrame) (framed : f.Framed s.cfg) (whole : bs = f.bytes s.cfg) (sums : f.Sums s.cfg) (h : t.cursor = 0)
      (hok : t.ok = .ok) (record : t.record = fieldsOfBuffer (storedBuffer s.cfg.payloadCap f.payload buf))
  /-- R110: the bytes are a whole frame with another checksum -/
  | mismatch (f : RxFrame) (framed : f.Framed s.cfg) (whole : bs = f.bytes s.cfg) (sums : ¬ f.Sums s.cfg)
      (h : t.cursor = 0) (hok : t.ok = .waiting) (record : t.record = s.record)

/-- One byte of an attempt. -/
theorem Attempt.consume {buf : Buffer} {s : State} {bs : List Byte} (attempt : Attempt buf s bs)
    (legal : configOk s.cfg = true) {b : Byte} {rest : List Byte} (hq : s.rxq = b :: rest) :
    Consumed buf s (decoderStep s) (bs ++ [b]) := by
  have summed {xs : List Byte} (sum : s.sumAcc = byteSum s.cfg.checksumWidth xs) :
      (s.sumAcc + b.toNat) % 2 ^ s.cfg.checksumWidth = byteSum s.cfg.checksumWidth (xs ++ [b]) := by
    rw [byteSum_append, sum, addAt, zext]
  cases attempt with
  | idle h hbuf =>
    rw [decoderStep_zero hq legal h]
    split
    case isTrue hb =>
      subst hb
      refine .continues (.start1 rfl hbuf ?_) rfl rfl
      simp [byteSum, addAt, zext]
    case isFalse hb =>
      refine .lost h rfl fun f _ part => hb ?_
      rw [f.bytes_eq] at part
      exact (List.cons_prefix_cons.1 part).1
  | start1 h hbuf sum =>
    rw [decoderStep_one hq legal h]
    split
    case isTrue hb =>
      subst hb
      exact .continues (.start2 rfl hbuf (summed sum)) rfl rfl
    case isFalse hb =>
      refine .lost rfl rfl fun f _ part => hb ?_
      rw [f.bytes_eq] at part
      simpa using part
  | start2 h hbuf sum =>
    rw [decoderStep_two hq legal h]
    exact .continues (.lengthHigh b rfl hbuf rfl (summed sum)) rfl rfl
  | lengthHigh hi h hbuf len sum =>
    have frameLen : (s.frameLen ||| b.toNat) % 2 ^ s.cfg.frameLenWidth = pairAt s.cfg.frameLenWidth hi b := by
      rw [len, pairAt_of_writes]
    cases acc : accepted s.cfg (pairAt s.cfg.frameLenWidth hi b) with
    | true =>
      rw [decoderStep_three_of_accepted hq legal h (frameLen ▸ acc)]
      exact .continues (.payload ⟨hi, b, [], 0, 0⟩ acc (Nat.zero_le _) rfl hbuf frameLen (summed sum)) rfl rfl
    | false =>
      rw [decoderStep_three_of_not_accepted hq h (frameLen ▸ acc)]
      refine .lost rfl rfl fun f framed part => ?_
      rw [f.bytes_eq] at part
      obtain ⟨rfl, rfl⟩ : hi = f.lenHi ∧ b = f.lenLo := by simpa using part
      exact Bool.false_ne_true (acc.symm.trans framed.1)
  | payload f acc room h hbuf len sum =>
    obtain ⟨two, fits⟩ := configOk_accepted legal acc
    obtain more | last := Nat.lt_or_eq_of_le room
    · rw [decoderStep_payload hq (by omega) (by omega) (by omega), ← f.head_snoc]
      refine .continues (.payload { f with payload := f.payload ++ [b] } acc ?_ ?_ ?_ len ?_) rfl rfl
      · rw [List.length_append, List.length_singleton]; exact more
      · dsimp only; rw [h, List.length_append, List.length_singleton]
      · dsimp only; rw [storedBuffer_snoc, h, Nat.add_sub_cancel, hbuf]
      · exact (summed sum).trans (congrArg _ (f.head_snoc _ b).symm)
    · rw [decoderStep_checksumHigh hq (by omega) (by omega) (by omega)]
      exact .continues (.checksumHigh { f with sumHi := b } ⟨acc, last⟩ (by dsimp only; rw [len]; rfl) hbuf len sum rfl)
        rfl rfl
  | checksumHigh f framed h hbuf len sum rx =>
    have received : (s.rxSum ||| b.toNat) % 2 ^ s.cfg.checksumWidth =
        RxFrame.checksum s.cfg { f with sumLo := b } := by
      rw [rx, pairAt_of_writes]; rfl
    have whole : f.head s.cfg ++ [f.sumHi] ++ [b] = RxFrame.bytes s.cfg { f with sumLo := b } := by
      rw [List.append_assoc]; rfl
    obtain ⟨two, -⟩ := configOk_accepted legal framed.1
    rw [decoderStep_checksumLow hq (by omega) (by omega), received, sum]
    split
    case isTrue sums =>
      exact .success { f with sumLo := b } framed whole sums rfl rfl (by rw [← hbuf])
    case isFalse differs => exact .mismatch { f with sumLo := b } framed whole differs rfl rfl rfl

end Sys2Proof.Machine
end

section
/-!
A success is a well-formed frame that began at cursor 0 (40_decoder.md R121 item 1).
-/
namespace Sys2Proof.Machine

theorem execAll_snoc (ops : List Instr) (i : Instr) (s : State) :
    execAll (ops ++ [i]) s = execNext i (execAll ops s) := execAll_append ops [i] s

/-- After these operations from `s`, the bytes consumed last are those of an attempt that began at cursor 0. -/
def HasAttempt (s : State) (ops : List Instr) : Prop :=
  ∃ (before after : List Instr) (buf : Buffer) (bs : List Byte), before ++ after = ops ∧
    (execAll before s).cursor = 0 ∧ (execAll before s).rxq = bs ++ (execAll ops s).rxq ∧
    Attempt buf (execAll ops s) bs

theorem hasAttempt_of_cursor_zero {s : State} {ops : List Instr} (h : (execAll ops s).cursor = 0) : HasAttempt s ops :=
  ⟨ops, [], _, [], List.append_nil ops, h, rfl, .idle h rfl⟩

theorem HasAttempt.command {s : State} {ops : List Instr} (has : HasAttempt s ops) {i : Instr} (command : i ≠ .step) :
    HasAttempt s (ops ++ [i]) := by
  obtain ⟨before, after, buf, bs, rfl, start, stream, attempt⟩ := has
  obtain ⟨same, cfg, rxq, -⟩ := execNext_command command (execAll (before ++ after) s)
  rw [← execAll_snoc] at same cfg rxq
  exact ⟨before, after ++ [i], buf, bs, (List.append_assoc ..).symm, start, rxq.symm ▸ stream,
    attempt.of_sameDecoder same cfg⟩

theorem HasAttempt.step {s : State} {ops : List Instr} (legal : configOk s.cfg = true) (has : HasAttempt s ops) :
    HasAttempt s (ops ++ [.step]) := by
  obtain ⟨before, after, buf, bs, rfl, start, stream, attempt⟩ := has
  have last : execAll (before ++ after ++ [.step]) s = decoderStep (execAll (before ++ after) s) := execAll_snoc ..
  have ended (h : (decoderStep (execAll (before ++ after) s)).cursor = 0) := hasAttempt_of_cursor_zero (last ▸ h)
  have goes {bs' : List Byte} (attempt' : Attempt buf (decoderStep (execAll (before ++ after) s)) bs')
      (consumed : bs ++ (execAll (before ++ after) s).rxq = bs' ++ (execAll (before ++ after) s).rxq.tail) :
      HasAttempt s (before ++ after ++ [.step]) :=
    ⟨before, after ++ [.step], buf, bs', (List.append_assoc ..).symm, start,
      by rw [last, stream, consumed]; exact congrArg _ (decoderStep_rxq _).symm, last ▸ attempt'⟩
  obtain empty | ⟨b, rest, hq⟩ := rxq_cases (execAll (before ++ after) s)
  · exact goes (attempt.noByte empty) (by rw [empty, List.tail_nil])
  · cases attempt.consume (by rwa [execAll_cfg]) hq with
    | continues attempt' _ _ => exact goes attempt' (by simp [hq])
    | lost h _ _ => exact ended h
    | success _ _ _ _ h _ _ => exact ended h
    | mismatch _ _ _ _ h _ _ => exact ended h

theorem hasAttempt {s : State} (legal : configOk s.cfg = true) (h : s.cursor = 0) (ops : List Instr) :
    HasAttempt s ops := by
  induction ops using List.reverseRecOn with
  | nil => exact hasAttempt_of_cursor_zero h
  | append_singleton ops i ih =>
    by_cases isStep : i = .step
    · rw [isStep]; exact ih.step legal
    · exact ih.command isStep

/-- Settles O49: the attempt before the last STEP, with the byte it consumes, is a whole frame with its sum. -/
theorem successNeedsAWellFormedFrame : Obligations.SuccessNeedsAWellFormedFrame := by
  intro ops s t legal h run hok
  rw [runOps_eq, Host.Outcome.next.injEq, execAll_snoc] at run
  obtain ⟨before, after, buf, bs, rfl, start, stream, attempt⟩ := hasAttempt legal h ops
  have legal' : configOk (execAll (before ++ after) s).cfg = true := by rwa [execAll_cfg]
  have cfg : (execAll (before ++ after) s).cfg = s.cfg := execAll_cfg _ s
  generalize execAll (before ++ after) s = u at *
  subst run
  obtain empty | ⟨b, rest, hq⟩ := rxq_cases u
  · rw [execNext, decoderStep_nil empty] at hok
    cases hok
  · cases attempt.consume legal' hq with
    | success f framed whole sums _ _ _ =>
      refine ⟨before, after ++ [.step], execAll before s, bs ++ [b], (List.append_assoc ..).symm, runOps_eq .., start, ?_,
        f, cfg ▸ framed, cfg ▸ sums, cfg ▸ whole⟩
      rw [stream, execNext, decoderStep_rxq, hq, List.append_assoc]
      rfl
    | continues _ waiting _ => exact absurd (waiting.symm.trans hok) (by simp)
    | mismatch _ _ _ _ _ waiting _ => exact absurd (waiting.symm.trans hok) (by simp)
    | lost _ waiting _ => exact absurd (waiting.symm.trans hok) (by simp)

end Sys2Proof.Machine
end

section
/-!
A framed sequence of bytes that arrives from cursor 0 on, in any pieces (40_decoder.md R115, R120, R121 items 3 to 5).
-/
namespace Sys2Proof.Machine

theorem RxFrame.Framed.two_le {c : Config} {f : RxFrame} (framed : f.Framed c) (legal : configOk c = true) :
    2 ≤ f.len c := (configOk_accepted legal framed.1).1

theorem RxFrame.Framed.bytes_length {c : Config} {f : RxFrame} (framed : f.Framed c) (legal : configOk c = true) :
    (f.bytes c).length = f.len c + 4 := by
  have two := framed.two_le legal
  rw [f.bytes_eq]
  simp only [List.length_cons, List.length_append, framed.2, List.length_nil]
  omega

/-- The header says the length (R52). -/
theorem RxFrame.len_eq_of_isPrefix {c : Config} {f g : RxFrame} (part : g.head c <+: f.bytes c) :
    g.len c = f.len c := by
  obtain ⟨hi, lo, -⟩ : g.lenHi = f.lenHi ∧ g.lenLo = f.lenLo ∧ g.payload <+: f.payload ++ [f.sumHi, f.sumLo] := by
    simpa [RxFrame.head, RxFrame.bytes] using part
  rw [RxFrame.len, RxFrame.len, hi, lo]

/-- An attempt is never a whole frame: the last byte ends it. -/
theorem Attempt.length_lt {buf : Buffer} {t : State} {bs : List Byte} (attempt : Attempt buf t bs)
    (legal : configOk t.cfg = true) {f : RxFrame} (framed : f.Framed t.cfg) (part : bs <+: f.bytes t.cfg) :
    bs.length < (f.bytes t.cfg).length := by
  have two := framed.two_le legal
  rw [framed.bytes_length legal]
  cases attempt with
  | idle _ _ | start1 _ _ _ | start2 _ _ _ | lengthHigh _ _ _ _ _ => simp only [List.length_cons, List.length_nil]; omega
  | payload g acc room _ _ _ _ =>
    have len := RxFrame.len_eq_of_isPrefix part
    simp only [RxFrame.head, List.length_append, List.length_cons, List.length_nil]
    omega
  | checksumHigh g framed' _ _ _ _ _ =>
    have len := RxFrame.len_eq_of_isPrefix ((List.prefix_append _ _).trans part)
    have payload := framed'.2
    simp only [RxFrame.head, List.length_append, List.length_cons, List.length_nil]
    omega

/-- Of framed sequences none begins another (R52). -/
theorem RxFrame.eq_of_bytes_isPrefix {c : Config} (legal : configOk c = true) {f g : RxFrame} (framedF : f.Framed c)
    (framedG : g.Framed c) (part : g.bytes c <+: f.bytes c) : g = f := by
  have len := RxFrame.len_eq_of_isPrefix ((List.prefix_append _ _).trans part)
  have whole : g.bytes c = f.bytes c := by
    refine part.eq_of_length ?_
    rw [framedF.bytes_length legal, framedG.bytes_length legal, len]
  rw [f.bytes_eq, g.bytes_eq] at whole
  obtain ⟨hi, lo, rest⟩ : g.lenHi = f.lenHi ∧ g.lenLo = f.lenLo ∧
      g.payload ++ [g.sumHi, g.sumLo] = f.payload ++ [f.sumHi, f.sumLo] := by simpa using whole
  obtain ⟨payload, sums⟩ := List.append_inj' rest rfl
  obtain ⟨sumHi, sumLo⟩ : g.sumHi = f.sumHi ∧ g.sumLo = f.sumLo := by simpa using sums
  cases f
  cases g
  rw [RxFrame.mk.injEq]
  exact ⟨hi, lo, payload, sumHi, sumLo⟩

theorem waiting_of_ne_ok {r : StepResult} (h : r ≠ .ok) : r = .waiting := by
  cases r with
  | waiting => rfl
  | ok => exact absurd rfl h

/-- What the last byte of a framed sequence leaves, from `s` to `t`. -/
structure FrameEnded (f : RxFrame) (buf : Buffer) (record : Reading) (t : State) : Prop where
  cursor : t.cursor = 0
  success : f.Sums t.cfg → CommittedFields t.cfg f.payload buf t.record
  failure : ¬ f.Sums t.cfg → t.record = record

/-- One byte of a framed sequence: the attempt goes on until the last one. -/
theorem Attempt.consume_frame {buf : Buffer} {s : State} {bs : List Byte} (attempt : Attempt buf s bs)
    (legal : configOk s.cfg = true) (length : buf.length = s.cfg.payloadCap) {f : RxFrame} (framed : f.Framed s.cfg)
    {b : Byte} {rest : List Byte} (hq : s.rxq = b :: rest) (part : bs ++ [b] <+: f.bytes s.cfg) :
    (Attempt buf (decoderStep s) (bs ++ [b]) ∧ (decoderStep s).ok = .waiting ∧
      (decoderStep s).record = s.record ∧ (bs ++ [b]).length < (f.bytes s.cfg).length) ∨
    (bs ++ [b] = f.bytes s.cfg ∧ FrameEnded f buf s.record (decoderStep s) ∧
      ((decoderStep s).ok = .ok ↔ f.Sums s.cfg)) := by
  have cfg := decoderStep_cfg s
  cases attempt.consume legal hq with
  | continues attempt' hok record =>
    have short := attempt'.length_lt (f := f) (by rwa [cfg]) (by rwa [cfg]) (by rwa [cfg])
    rw [cfg] at short
    exact .inl ⟨attempt', hok, record, short⟩
  | lost _ _ never => exact absurd part (never f framed)
  | success g framedG whole sums h hok record =>
    obtain rfl := RxFrame.eq_of_bytes_isPrefix legal framed framedG (whole ▸ part)
    have fields := committedFields_storedBuffer legal length g.payload
    exact .inr ⟨whole, ⟨h, fun _ => by rw [cfg, record]; exact fields, fun differs => absurd sums (cfg ▸ differs)⟩,
      iff_of_true hok sums⟩
  | mismatch g framedG whole differs h hok record =>
    obtain rfl := RxFrame.eq_of_bytes_isPrefix legal framed framedG (whole ▸ part)
    exact .inr ⟨whole, ⟨h, fun sums => absurd (cfg ▸ sums) differs, fun _ => record⟩,
      iff_of_false (by simp [hok]) differs⟩

/-- What an input other than a reset does: it is a STEP, or it leaves the decoder alone; and its bytes arrive after. -/
theorem perform_cases {i : Input} {s t : State} (hperform : perform i s = .next t) (noReset : i.isReset = false) :
    (i.isStep = true ∧ t = receive i.arriving (decoderStep s)) ∨
    (i.isStep = false ∧ SameDecoder s t ∧ t.cfg = s.cfg ∧ t.rxq = s.rxq ++ i.arriving) := by
  obtain ⟨w, arriving, o, rfl, hd, rfl⟩ | ⟨bs, rfl, rfl⟩ | ⟨c, rfl, -⟩ | ⟨ms, rfl, rfl⟩ := perform_next_iff.1 hperform
  · by_cases isStep : o = .step
    · subst isStep
      exact .inl ⟨by simp [Input.isStep, hd], rfl⟩
    · obtain ⟨same, cfg, rxq, -⟩ := execNext_command isStep s
      exact .inr ⟨by simp [Input.isStep, hd, isStep], same, cfg, congrArg (· ++ arriving) rxq⟩
  · exact .inr ⟨rfl, .refl s, rfl, rfl⟩
  · cases noReset
  · exact .inr ⟨rfl, .refl s, rfl, (List.append_nil _).symm⟩

/-- Where the decoder is in a framed sequence that begins at `s`, when these bytes have been consumed; `stepped` is
whether a STEP was made. -/
inductive Receiving (s : State) (f : RxFrame) (stepped : Bool) : List Byte → State → Prop
  | during {bs : List Byte} {t : State} (cfg : t.cfg = s.cfg) (attempt : Attempt s.buf t bs)
      (short : bs.length < (f.bytes s.cfg).length) (record : t.record = s.record)
      (hok : stepped = true → t.ok = .waiting) : Receiving s f stepped bs t
  | ended {t : State} (cfg : t.cfg = s.cfg) (ended : FrameEnded f s.buf s.record t)
      (hok : ¬ f.Sums s.cfg → t.ok = .waiting) : Receiving s f stepped (f.bytes s.cfg) t
  | beyond {bs : List Byte} {t : State} (cfg : t.cfg = s.cfg) (long : (f.bytes s.cfg).length < bs.length) :
      Receiving s f stepped bs t

theorem Receiving.cfg {s t : State} {f : RxFrame} {stepped : Bool} {bs : List Byte}
    (receiving : Receiving s f stepped bs t) : t.cfg = s.cfg := by
  cases receiving <;> assumption

theorem Receiving.of_sameDecoder {s t u : State} {f : RxFrame} {stepped : Bool} {bs : List Byte}
    (receiving : Receiving s f stepped bs t) (same : SameDecoder t u) (cfg : u.cfg = t.cfg) :
    Receiving s f stepped bs u := by
  obtain ⟨cursor, -, -, -, -, sameOk, sameRecord⟩ := id same
  cases receiving with
  | during cfg' attempt short record hok =>
    exact .during (cfg.trans cfg') (attempt.of_sameDecoder same cfg) short (sameRecord.trans record)
      fun stepped => sameOk.trans (hok stepped)
  | ended cfg' ended hok =>
    obtain ⟨h, success, failure⟩ := ended
    refine .ended (cfg.trans cfg') ⟨cursor.trans h, ?_, ?_⟩ fun differs => sameOk.trans (hok differs)
    · rw [cfg, sameRecord]; exact success
    · rw [cfg, sameRecord]; exact failure
  | beyond cfg' long => exact .beyond (cfg.trans cfg') long

/-- The next byte of a stream that begins with `whole` is a byte of `whole`, as long as that has not ended. -/
theorem snoc_isPrefix {bs q whole rest : List Byte} {b : Byte} (stream : bs ++ b :: q <+: whole ++ rest)
    (short : bs.length < whole.length) : bs ++ [b] <+: whole := by
  have began : bs ++ [b] <+: bs ++ b :: q := ⟨q, by simp⟩
  refine List.prefix_of_prefix_length_le (began.trans stream) (List.prefix_append _ _) ?_
  rw [List.length_append, List.length_singleton]
  exact short

section
variable {s : State} {f : RxFrame} {rest : List Byte} (inv : s.Inv) (framed : f.Framed s.cfg)
include inv framed

/-- One STEP on the stream (R102, R106 to R110). -/
theorem Receiving.decoderStep {t : State} {stepped : Bool} {bs : List Byte} (receiving : Receiving s f stepped bs t)
    (stream : bs ++ t.rxq <+: f.bytes s.cfg ++ rest) :
    ∃ bs', bs ++ t.rxq = bs' ++ (decoderStep t).rxq ∧ Receiving s f true bs' (decoderStep t) := by
  have cfg := receiving.cfg
  have cfg' : (Machine.decoderStep t).cfg = s.cfg := (decoderStep_cfg t).trans cfg
  obtain empty | ⟨b, q, hq⟩ := rxq_cases t
  · refine ⟨bs, by rw [decoderStep_rxq, empty, List.tail_nil], ?_⟩
    cases receiving with
    | during _ attempt short record _ =>
      have noByte := decoderStep_nil empty
      exact .during cfg' (attempt.noByte empty) short (by rw [noByte]; exact record) fun _ => by rw [noByte]
    | ended _ ended _ =>
      rw [decoderStep_nil empty]
      exact .ended cfg ⟨ended.cursor, ended.success, ended.failure⟩ fun _ => rfl
    | beyond _ long => exact .beyond cfg' long
  · refine ⟨bs ++ [b], by simp [decoderStep_rxq, hq], ?_⟩
    cases receiving with
    | during _ attempt short record _ =>
      have part : bs ++ [b] <+: f.bytes t.cfg := by
        rw [hq] at stream
        rw [cfg]
        exact snoc_isPrefix stream short
      obtain ⟨attempt', hok, record', short'⟩ | ⟨whole, ended, hok⟩ :=
        attempt.consume_frame (by rw [cfg]; exact inv.config) (by rw [cfg]; exact inv.bufLength)
          (f := f) (by rwa [cfg]) hq part
      · exact .during cfg' attempt' (cfg ▸ short') (record'.trans record) fun _ => hok
      · rw [whole, cfg]
        rw [record] at ended
        exact .ended cfg' ended fun differs => waiting_of_ne_ok fun h => differs (cfg ▸ hok.1 h)
    | ended _ _ _ => exact .beyond cfg' (by simp)
    | beyond _ long => exact .beyond cfg' (by rw [List.length_append]; omega)

/-- One input on the stream: what has been consumed and what waits in `rxq` are what has arrived. -/
theorem Receiving.perform {t u : State} {stepped : Bool} {bs : List Byte} (receiving : Receiving s f stepped bs t)
    {i : Input} (noReset : i.isReset = false) (stream : bs ++ t.rxq <+: f.bytes s.cfg ++ rest)
    (hperform : perform i t = .next u) :
    ∃ bs', bs ++ t.rxq ++ i.arriving = bs' ++ u.rxq ∧ Receiving s f (stepped || i.isStep) bs' u := by
  obtain ⟨isStep, rfl⟩ | ⟨notStep, same, cfg, rxq⟩ := perform_cases hperform noReset
  · obtain ⟨bs', consumed, receiving'⟩ := receiving.decoderStep inv framed stream
    rw [isStep, Bool.or_true]
    exact ⟨bs', by rw [consumed, List.append_assoc]; rfl, receiving'.of_sameDecoder (.refl _) rfl⟩
  · rw [notStep, Bool.or_false]
    exact ⟨bs, by rw [rxq, List.append_assoc], receiving.of_sameDecoder same cfg⟩

theorem Receiving.runInputs {is : List Input} {t u : State} {stepped : Bool} {bs : List Byte}
    (receiving : Receiving s f stepped bs t) (noReset : ∀ i ∈ is, i.isReset = false)
    (stream : bs ++ t.rxq ++ arrivals is <+: f.bytes s.cfg ++ rest) (run : runInputs is t = .next u) :
    ∃ bs', bs ++ t.rxq ++ arrivals is = bs' ++ u.rxq ∧ Receiving s f (stepped || is.any Input.isStep) bs' u := by
  induction is generalizing t stepped bs with
  | nil =>
    cases run
    exact ⟨bs, by simp [arrivals], by simpa using receiving⟩
  | cons i is ih =>
    obtain ⟨noResetI, noReset⟩ := List.forall_mem_cons.1 noReset
    have arrive : bs ++ t.rxq ++ arrivals (i :: is) = bs ++ t.rxq ++ i.arriving ++ arrivals is := by
      simp [arrivals]
    rw [Machine.runInputs] at run
    cases hperform : Machine.perform i t with
    | next v =>
      rw [hperform] at run
      have before : bs ++ t.rxq <+: f.bytes s.cfg ++ rest := (List.prefix_append _ _).trans stream
      obtain ⟨bs', consumed, receiving'⟩ := receiving.perform inv framed noResetI before hperform
      rw [arrive, consumed] at stream ⊢
      rw [List.any_cons, ← Bool.or_assoc]
      exact ih receiving' noReset stream run
    | fault r => cases r
    | refused r => rw [hperform] at run; cases run

/-- From cursor 0, with the stream as it has arrived so far and as it arrives later. -/
theorem receiving_of_runInputs {is : List Input} {t : State} {later : List Byte} (h : s.cursor = 0)
    (noReset : ∀ i ∈ is, i.isReset = false) (stream : s.rxq ++ arrivals is ++ later = f.bytes s.cfg ++ rest)
    (run : runInputs is s = .next t) :
    ∃ bs, s.rxq ++ arrivals is = bs ++ t.rxq ∧ bs ++ (t.rxq ++ later) = f.bytes s.cfg ++ rest ∧
      Receiving s f (is.any Input.isStep) bs t := by
  have begins : Receiving s f false [] s := by
    refine .during rfl (.idle h rfl) ?_ rfl nofun
    rw [framed.bytes_length inv.config]
    exact Nat.succ_pos _
  obtain ⟨bs, consumed, receiving⟩ := begins.runInputs inv framed noReset ⟨later, stream⟩ run
  refine ⟨bs, consumed, ?_, receiving⟩
  rw [← List.append_assoc, ← stream]
  exact congrArg (· ++ later) consumed.symm

end

/-- Settles O51: until the last byte the attempt goes on; a STEP on the last one commits the fields, and what follows,
short of another byte, leaves them. -/
theorem validFrameSucceedsExactlyOnce : Obligations.ValidFrameSucceedsExactlyOnce := by
  intro s t f is later rest inv h framed sums stream noReset run consumed total
  obtain ⟨bs, arrived, remaining, receiving⟩ := receiving_of_runInputs inv framed h noReset stream run
  have count : consumed = bs.length := by simp only [consumed, arrived, List.length_append, Nat.add_sub_cancel]
  rw [count]
  cases receiving with
  | during cfg attempt short record hok =>
    refine ⟨fun _ => ⟨record, hok⟩, fun last available => ?_, fun whole => absurd whole (Nat.ne_of_lt short)⟩
    obtain ⟨b, q, hq⟩ := List.exists_cons_of_ne_nil available
    rw [hq, List.cons_append] at remaining
    have part : bs ++ [b] <+: f.bytes s.cfg := snoc_isPrefix (by rw [remaining]) short
    obtain ⟨-, -, -, short'⟩ | ⟨whole, ended, hok'⟩ :=
      attempt.consume_frame (by rw [cfg]; exact inv.config) (by rw [cfg]; exact inv.bufLength)
        (f := f) (by rwa [cfg]) hq (by rwa [cfg])
    · rw [cfg, List.length_append, List.length_singleton] at short'
      exact absurd last (Nat.ne_of_lt short')
    · rw [cfg] at whole hok'
      have cfg' : (decoderStep t).cfg = s.cfg := (decoderStep_cfg t).trans cfg
      have left : q ++ later = rest := by
        rw [← whole, List.append_assoc] at remaining
        exact List.cons_injective (List.append_cancel_left remaining)
      refine ⟨_, exec_step_eq t, hok'.2 sums, ended.cursor, ?_, cfg' ▸ ended.success (cfg' ▸ sums)⟩
      rw [decoderStep_rxq, hq, List.tail_cons, left]
  | ended cfg ended hok =>
    exact ⟨fun short => absurd short (Nat.lt_irrefl _), fun last => absurd last (Nat.succ_ne_self _),
      fun _ => ⟨ended.cursor, List.append_cancel_left remaining, cfg ▸ ended.success (cfg ▸ sums)⟩⟩
  | beyond cfg long =>
    have long : total < bs.length := long
    exact ⟨fun _ => by omega, fun _ => by omega, fun _ => by omega⟩

/-- Settles O52: the run is the one of O51 with the other ending. -/
theorem alteredChecksumNeverSucceeds : Obligations.AlteredChecksumNeverSucceeds := by
  intro s t f is later rest inv h framed differs stream noReset run consumed total
  obtain ⟨bs, arrived, remaining, receiving⟩ := receiving_of_runInputs inv framed h noReset stream run
  have count : consumed = bs.length := by simp only [consumed, arrived, List.length_append, Nat.add_sub_cancel]
  rw [count]
  cases receiving with
  | during cfg attempt short record hok =>
    exact ⟨fun _ => ⟨record, hok⟩, fun whole => absurd whole (Nat.ne_of_lt short)⟩
  | ended cfg ended hok =>
    exact ⟨fun _ => ⟨ended.failure (cfg ▸ differs), fun _ => hok differs⟩,
      fun _ => ⟨ended.cursor, List.append_cancel_left remaining⟩⟩
  | beyond cfg long =>
    have long : total < bs.length := long
    exact ⟨fun _ => by omega, fun _ => by omega⟩

theorem runInputs_steps (n : Nat) (s : State) :
    runInputs (List.replicate n (.op (encode .step) [])) s = .next (execAll (List.replicate n .step) s) := by
  induction n generalizing s with
  | zero => rfl
  | succ n ih =>
    rw [List.replicate_succ, runInputs, perform_op (decode_encode .step), receive_nil]
    exact ih (decoderStep s)

theorem arrivals_steps (n : Nat) : arrivals (List.replicate n (.op (encode .step) [])) = [] := by
  simp [arrivals, Input.arriving]

theorem execAll_steps_rxq (n : Nat) (s : State) : (execAll (List.replicate n .step) s).rxq = s.rxq.drop n := by
  induction n generalizing s with
  | zero => rfl
  | succ n ih => rw [execAll_replicate_succ, ih, decoderStep_rxq, List.drop_tail]

/-- As many STEPs as a valid frame has bytes commit it. -/
theorem execAll_steps_validFrame {s : State} {f : RxFrame} {rest : List Byte} (inv : s.Inv) (h : s.cursor = 0)
    (framed : f.Framed s.cfg) (sums : f.Sums s.cfg) (stream : s.rxq = f.bytes s.cfg ++ rest) :
    ∃ t, execAll (List.replicate (f.bytes s.cfg).length .step) s = t ∧ t.ok = .ok ∧ t.rxq = rest ∧
      CommittedFields s.cfg f.payload s.buf t.record := by
  obtain ⟨n, total⟩ : ∃ n, (f.bytes s.cfg).length = n + 1 := ⟨_, framed.bytes_length inv.config⟩
  have left := execAll_steps_rxq n s
  have lengths : s.rxq.length = n + 1 + rest.length := by rw [stream, List.length_append, total]
  obtain ⟨-, last, -⟩ := validFrameSucceedsExactlyOnce s _ f _ [] rest inv h framed sums
    (by rw [arrivals_steps, List.append_nil, List.append_nil, stream])
    (fun i hi => by rw [List.eq_of_mem_replicate hi]; rfl) (runInputs_steps n s)
  obtain ⟨u, hu, hok, -, rxq, fields⟩ := last
    (by rw [arrivals_steps, List.append_nil, left, List.length_drop, lengths, total]; omega)
    (List.ne_nil_of_length_pos (by rw [left, List.length_drop, lengths]; omega))
  obtain rfl := exec_step_next_iff.1 hu
  refine ⟨_, ?_, hok, by simpa using rxq, fields⟩
  rw [total, List.replicate_succ', execAll_snoc]
  rfl

/-- Settles O53: a byte that is not START1 leaves cursor 0, buffer and record as they are, and the frame follows; after
START1 the frame's own START1 is not a START2, and its START2 is not a START1. -/
theorem garbageByteBeforeAFrame : Obligations.GarbageByteBeforeAFrame := by
  intro s g f rest inv h framed sums stream
  have first := decoderStep_zero stream inv.config h
  constructor
  · intro other
    rw [if_neg other] at first
    have inv' : ({ s with ok := .waiting, rxq := f.bytes s.cfg ++ rest } : State).Inv := { inv with }
    obtain ⟨t, run, hok, rxq, fields⟩ := execAll_steps_validFrame inv' h framed sums rfl
    refine ⟨t, ?_, hok, rxq, fields⟩
    rw [runOps_eq, execAll_replicate_succ]
    exact congrArg _ ((congrArg _ first).trans run)
  · intro start different
    rw [if_pos start] at first
    have second := (decoderStep_one (b := s.cfg.start1)
      (s := { s with
        ok := .waiting, rxq := f.bytes s.cfg ++ rest, sumAcc := g.toNat % 2 ^ s.cfg.checksumWidth, cursor := 1 })
      rfl inv.config rfl).trans (if_neg different)
    have third := (decoderStep_zero (b := s.cfg.start2) (rest := (f.bytes s.cfg ++ rest).drop 2)
      (s := { s with
        ok := .waiting, rxq := (f.bytes s.cfg ++ rest).tail, sumAcc := g.toNat % 2 ^ s.cfg.checksumWidth, cursor := 0 })
      rfl inv.config rfl).trans (if_neg different.symm)
    have run := (congrArg (decoderStep <| decoderStep ·) first).trans ((congrArg decoderStep second).trans third)
    exact ⟨_, (runOps_eq _ s).trans (congrArg _ run), rfl, rfl, rfl, rfl, stream⟩

end Sys2Proof.Machine
end

section
/-!
The host's procedures (42_host_read.md R170 to R177): POLL, and READ as an inductive account of its turns.
-/
namespace Sys2Proof.Machine

/-- Settles O56: POLL's two answers are those of the test of `ok`. -/
theorem pollIsOneStep : Obligations.PollIsOneStep := by
  intro copy s
  refine ⟨decoderStep s, exec_step_eq s, ?_⟩
  cases hok : (decoderStep s).ok <;> simp [poll, hok]

/-- R174: the state in which the next turn begins, when the host yields. -/
def turnEnd (u : Turn) (s : State) : State :=
  advanceClock u.yieldMs (receive u.arrive (advanceClock u.elapse (decoderStep s)))

/-- How READ goes over its turns from the state `s`, after `n` STEPs (R172). -/
inductive ReadPlay (start limit : Nat) : List Turn → Nat → State → ReadReturn → Prop
  /-- the STEP set `ok` -/
  | success {u : Turn} {vs : List Turn} {n : Nat} {s : State} (hok : (decoderStep s).ok = .ok) :
      ReadPlay start limit (u :: vs) n s ⟨.success (decoderStep s).record, decoderStep s, n + 1⟩
  /-- it did not, and the time is up (R173) -/
  | timeout {u : Turn} {vs : List Turn} {n : Nat} {s : State} (hok : (decoderStep s).ok = .waiting)
      (up : limit ≤ elapsedSince start (advanceClock u.elapse (decoderStep s))) :
      ReadPlay start limit (u :: vs) n s ⟨.timeout, advanceClock u.elapse (decoderStep s), n + 1⟩
  /-- the host yields, and there is no further turn (R175) -/
  | abandoned {u : Turn} {n : Nat} {s : State} (hok : (decoderStep s).ok = .waiting)
      (left : ¬ limit ≤ elapsedSince start (advanceClock u.elapse (decoderStep s))) :
      ReadPlay start limit [u] n s ⟨.abandoned, turnEnd u s, n + 1⟩
  /-- the host yields, and the loop goes on -/
  | yields {u v : Turn} {vs : List Turn} {n : Nat} {s : State} {r : ReadReturn} (hok : (decoderStep s).ok = .waiting)
      (left : ¬ limit ≤ elapsedSince start (advanceClock u.elapse (decoderStep s)))
      (next : ReadPlay start limit (v :: vs) (n + 1) (turnEnd u s) r) : ReadPlay start limit (u :: v :: vs) n s r

theorem readLoop_of_inl {start limit n : Nat} {u : Turn} {s : State} {r : ReadReturn} (vs : List Turn)
    (turn : readTurn start limit n u s = .inl r) : readLoop start limit vs u n s = r := by
  cases vs <;> simp [readLoop, turn]

theorem readLoop_play (start limit : Nat) (vs : List Turn) (u : Turn) (n : Nat) (s : State) :
    ReadPlay start limit (u :: vs) n s (readLoop start limit vs u n s) := by
  cases hok : (decoderStep s).ok with
  | ok =>
    rw [readLoop_of_inl vs (readTurn_success hok)]
    exact .success hok
  | waiting =>
    have notOk : (decoderStep s).ok ≠ .ok := by simp [hok]
    by_cases up : limit ≤ elapsedSince start (advanceClock u.elapse (decoderStep s))
    · rw [readLoop_of_inl vs (readTurn_timeout notOk up)]
      exact .timeout hok up
    · have turn := readTurn_yield (n := n) notOk up
      cases vs with
      | nil => simp only [readLoop, turn]; exact .abandoned hok up
      | cons v vs => simp only [readLoop, turn]; exact .yields hok up (readLoop_play start limit vs v (n + 1) _)

theorem readTimeout_play (limit : Nat) (s : State) (first : Turn) (more : List Turn) :
    ReadPlay s.now limit (first :: more) 0 s (readTimeout limit first more s) :=
  readLoop_play s.now limit more first 0 s

theorem ReadPlay.steps_pos {start limit n : Nat} {turns : List Turn} {s : State} {r : ReadReturn}
    (play : ReadPlay start limit turns n s r) : n + 1 ≤ r.steps := by
  induction play with
  | success _ | timeout _ _ | abandoned _ _ => exact le_rfl
  | yields _ _ _ ih => omega

theorem ReadPlay.steps_le {start limit n : Nat} {turns : List Turn} {s : State} {r : ReadReturn}
    (play : ReadPlay start limit turns n s r) : r.steps ≤ n + turns.length := by
  induction play with
  | success _ | timeout _ _ | abandoned _ _ => simp
  | yields _ _ _ ih => simp only [List.length_cons] at ih ⊢; omega

/-- R172, R175: what each ending says of the state it leaves. -/
theorem ReadPlay.ending {start limit n : Nat} {turns : List Turn} {s : State} {r : ReadReturn}
    (play : ReadPlay start limit turns n s r) :
    (∀ rec', r.result = .success rec' → r.state.ok = .ok ∧ rec' = r.state.record) ∧
    (r.result = .timeout → r.state.ok = .waiting ∧ limit ≤ elapsedSince start r.state) ∧
    (r.result = .abandoned → r.state.ok = .waiting ∧ r.steps = n + turns.length) := by
  induction play with
  | success hok => exact ⟨fun rec' h => ⟨hok, (ReadResult.success.inj h).symm⟩, nofun, nofun⟩
  | timeout hok up => exact ⟨nofun, fun _ => ⟨hok, up⟩, nofun⟩
  | abandoned hok left => exact ⟨nofun, nofun, fun _ => ⟨hok, rfl⟩⟩
  | yields hok left next ih =>
    obtain ⟨success, timeout, abandoned⟩ := ih
    refine ⟨success, timeout, fun h => ⟨(abandoned h).1, (abandoned h).2.trans ?_⟩⟩
    simp only [List.length_cons]
    omega

/-- Settles O58: a READ makes at least one STEP and at most one for each turn, and ends in one of three ways. -/
theorem readEndsAsTheLoopSays : Obligations.ReadEndsAsTheLoopSays := by
  intro limit s first more r
  have play : ReadPlay s.now limit (first :: more) 0 s r := readTimeout_play limit s first more
  have pos := play.steps_pos
  have le := play.steps_le
  obtain ⟨success, timeout, abandoned⟩ := play.ending
  rw [Nat.zero_add, List.length_cons] at le abandoned
  exact ⟨pos, le, success, timeout, abandoned⟩

/-- Settles O57: after the first STEP the elapsed time is at least 0, so READ 0 ends there. -/
theorem readZeroPerformsOneStep : Obligations.ReadZeroPerformsOneStep := by
  intro s first more
  refine ⟨decoderStep s, exec_step_eq s, ?_⟩
  have play := readTimeout_play 0 s first more
  generalize readTimeout 0 first more s = r at play
  cases play with
  | success hok =>
    refine ⟨rfl, fun _ => rfl, fun waiting => ?_, fun empty => ?_⟩
    · rw [hok] at waiting; cases waiting
    · rw [decoderStep_nil empty] at hok; cases hok
  | timeout hok up =>
    refine ⟨rfl, fun success => ?_, fun _ => rfl, fun _ => rfl⟩
    rw [hok] at success; cases success
  | abandoned _ left => exact absurd (Nat.zero_le _) left
  | yields _ left _ => exact absurd (Nat.zero_le _) left

/-! The turns as inputs (R172, R174). -/

theorem perform_step (s : State) : perform (.op (encode .step) []) s = .next (decoderStep s) := by
  rw [perform_op (decode_encode .step), receive_nil]
  rfl

theorem runInputs_step_cons (is : List Input) (s : State) :
    runInputs (.op (encode .step) [] :: is) s = runInputs is (decoderStep s) := by
  rw [runInputs, perform_step]

theorem runInputs_turn_append (u : Turn) (is : List Input) (s : State) :
    runInputs (u.inputs ++ is) s = runInputs is (turnEnd u s) :=
  runInputs_step_cons _ s

/-- What READ leaves is what its turns leave as inputs, the last one cut off where READ ends; before that no STEP set
`ok`. `k` is the number of whole turns. -/
theorem ReadPlay.inputs {start limit n : Nat} {turns : List Turn} {s : State} {r : ReadReturn}
    (play : ReadPlay start limit turns n s r) : ∃ k last, r.steps = n + k + 1 ∧ turns[k]? = some last ∧
      runInputs ((turns.take k).flatMap Turn.inputs ++ last.lastInputs r.result) s = .next r.state ∧
      ∀ j, j < k → ∃ t, runInputs ((turns.take (j + 1)).flatMap Turn.inputs) s = .next t ∧ t.ok = .waiting := by
  induction play with
  | @success u vs n s hok =>
    exact ⟨0, u, rfl, rfl, runInputs_step_cons [] s, nofun⟩
  | @timeout u vs n s hok up =>
    exact ⟨0, u, rfl, rfl, runInputs_step_cons [.tick u.elapse] s, nofun⟩
  | @abandoned u n s hok left => 
    exact ⟨0, u, rfl, rfl, runInputs_step_cons [.tick u.elapse, .rx u.arrive, .tick u.yieldMs] s, nofun⟩
  | @yields u v vs n s r hok left next ih =>
    obtain ⟨k, last, steps, turn, run, waiting⟩ := ih
    refine ⟨k + 1, last, by omega, turn, ?_, fun j hj => ?_⟩
    · rw [List.take_succ_cons, List.flatMap_cons, List.append_assoc, runInputs_turn_append, run]
    · rw [List.take_succ_cons, List.flatMap_cons, runInputs_turn_append]
      cases j with
      | zero => exact ⟨_, rfl, hok⟩
      | succ j => exact waiting j (by omega)

/-- Settles O59: the account of the turns as inputs, with the STEPs counted from 1. -/
theorem readIsRepeatedStep : Obligations.ReadIsRepeatedStep := by
  intro limit s first more r
  obtain ⟨k, last, steps, turn, run, waiting⟩ := (readTimeout_play limit s first more).inputs
  have whole : r.steps - 1 = k := by simp only [r, steps]; omega
  rw [whole]
  refine ⟨⟨last, turn, run⟩, fun j pos lt => ?_⟩
  obtain ⟨j, rfl⟩ := Nat.exists_eq_add_of_le' pos
  exact waiting j (by omega)

/-! The time a READ takes (R177). -/

/-- The counter reads `e` milliseconds after `start`, but for its wraps (R170). -/
def Elapsed (start e : Nat) (s : State) : Prop := s.now % 2 ^ s.cfg.clockWidth = (start + e) % 2 ^ s.cfg.clockWidth

theorem Elapsed.advanceClock {start e : Nat} {s : State} (elapsed : Elapsed start e s) (ms : Nat) :
    Elapsed start (e + ms) (advanceClock ms s) := by
  rw [Elapsed, advanceClock_now, advanceClock_cfg, Nat.mod_mod, ← Nat.mod_add_mod, elapsed, Nat.mod_add_mod,
    Nat.add_assoc]

theorem Elapsed.decoderStep {start e : Nat} {s : State} (elapsed : Elapsed start e s) :
    Elapsed start e (decoderStep s) := by
  rw [Elapsed, decoderStep_now, decoderStep_cfg]
  exact elapsed

/-- A reading of the counter, after it has advanced, shows the elapsed time exactly, short of a whole turn (D21). -/
theorem elapsedSince_advanceClock {start e ms : Nat} {s : State} (elapsed : Elapsed start e s)
    (lt : e + ms < 2 ^ s.cfg.clockWidth) : elapsedSince start (advanceClock ms s) = e + ms := by
  have reading : (advanceClock ms s).now = (start + (e + ms)) % 2 ^ s.cfg.clockWidth := by
    have after := elapsed.advanceClock ms
    rwa [Elapsed, advanceClock_now, advanceClock_cfg, Nat.mod_mod] at after
  rw [elapsedSince, reading, advanceClock_cfg, elapsed_wraps (Nat.two_pow_pos _), Nat.mod_eq_of_lt lt]

theorem Elapsed.turnEnd {start e : Nat} {s : State} (elapsed : Elapsed start e s) (u : Turn) :
    Elapsed start (e + (u.elapse + u.yieldMs)) (turnEnd u s) := by
  rw [← Nat.add_assoc]
  exact Elapsed.advanceClock (s := receive u.arrive _) (elapsed.decoderStep.advanceClock u.elapse) u.yieldMs

@[simp] theorem turnEnd_cfg (u : Turn) (s : State) : (turnEnd u s).cfg = s.cfg := by simp [turnEnd]

theorem time_up_of_elapsed {start limit e ms : Nat} {s : State} (elapsed : Elapsed start e s) (up : limit ≤ e + ms)
    (lt : e + ms < 2 ^ s.cfg.clockWidth) : limit ≤ elapsedSince start (advanceClock ms (decoderStep s)) := by
  rwa [elapsedSince_advanceClock elapsed.decoderStep (by rwa [decoderStep_cfg])]

/-- No turn at whose reading the time is up is followed by another. -/
theorem ReadPlay.ends_by {start limit n e : Nat} {turns before after : List Turn} {u : Turn} {s : State}
    {r : ReadReturn} (play : ReadPlay start limit turns n s r) (elapsed : Elapsed start e s)
    (split : turns = before ++ u :: after)
    (up : limit ≤ e + ((before.map fun v => v.elapse + v.yieldMs).sum + u.elapse))
    (lt : e + ((before.map fun v => v.elapse + v.yieldMs).sum + u.elapse) < 2 ^ s.cfg.clockWidth) :
    r.result ≠ .abandoned ∧ r.steps ≤ n + before.length + 1 := by
  induction play generalizing before e with
  | success _ | timeout _ _ => exact ⟨nofun, by dsimp only; omega⟩
  | abandoned hok left =>
    cases before with
    | nil =>
      obtain ⟨rfl, -⟩ := List.cons.inj split
      rw [List.map_nil, List.sum_nil, Nat.zero_add] at up lt
      exact absurd (time_up_of_elapsed elapsed up lt) left
    | cons w before => exact absurd (List.cons.inj split).2 (by simp)
  | yields hok left next ih =>
    cases before with
    | nil =>
      obtain ⟨rfl, -⟩ := List.cons.inj split
      rw [List.map_nil, List.sum_nil, Nat.zero_add] at up lt
      exact absurd (time_up_of_elapsed elapsed up lt) left
    | cons w before =>
      obtain ⟨rfl, rest⟩ := List.cons.inj split
      rw [List.map_cons, List.sum_cons, Nat.add_assoc, ← Nat.add_assoc e] at up lt
      obtain ⟨ends, steps⟩ := ih (elapsed.turnEnd _) rest up (by rwa [turnEnd_cfg])
      exact ⟨ends, by rw [List.length_cons]; omega⟩

/-- Settles O60: the counter is read exactly at every turn, and the READ goes on from none at which the time is up. -/
theorem readEndsOnceTheClockHasAdvanced : Obligations.ReadEndsOnceTheClockHasAdvanced := by
  intro limit s first more before after u split up lt
  have play := readTimeout_play limit s first more
  have ends := play.ends_by (e := 0) rfl split (by rwa [Nat.zero_add]) (by rwa [Nat.zero_add])
  rwa [Nat.zero_add] at ends

end Sys2Proof.Machine
end
